-- ==== Sys2Proof/Word.lean ====
section
/-! DEFINITION. The words the part exchanges with its masters and heads, and nothing else: everything here is a plain
bit vector, because a frame, a mask or a wrapping counter is what the manual treats as bits. -/

namespace Sys2Proof

/-- One byte of a frame, a record or an answer (chapter 11). -/
abbrev Byte := BitVec 8

/-- A time stamp: the 48-bit microsecond timebase (Table 1-4). -/
abbrev Time := BitVec 48

/-- The sequence number of a record (R135), wrapping at 2^32. -/
abbrev SeqNo := BitVec 32

/-- A 32-bit event mask (R176). -/
abbrev EventMask := BitVec 32

/-- The sixteen bits of the Signal Word (R175). -/
abbrev SignalMask := BitVec 16

end Sys2Proof
end

