-- ==== Sys2Proof/Syntax.lean ====
section
/-! DEFINITION. The commands of the TG640: one constructor for each row of spec/opcode_table.json. A command is a frame a
head sends, a request a master sends, a transaction on a master port, an edge or a phase change on a pin, a completed
conversion, the expiry of a timer, or a step of the Store Arbiter. A request carries the port it arrives on and its payload
as the wire carries it (chapter 11), so that a code outside its set can be sent and is answered as the rules say. -/

namespace Sys2Proof

/-- The two scanner heads (section 1.6.4). -/
inductive HeadId where
  | h1
  | h2
  deriving DecidableEq, Repr

/-- The three master ports (section 1.6.4). -/
inductive PortId where
  | p0
  | p1
  | p2
  deriving DecidableEq, Repr

/-- The two wheel encoders (section 3.2). -/
inductive Side where
  | left
  | right
  deriving DecidableEq, Repr

/-- The five sense channels of Table 2-1. -/
inductive Channel where
  | cant
  | supply (h : HeadId)
  | line (h : HeadId)
  deriving DecidableEq, Repr

/-- The levels of the two phases of an encoder (Table 3-2). -/
structure Phase where
  a : Bool
  b : Bool
  deriving DecidableEq, Repr

/-- One sample of a SAMPLE_BLOCK: a raw range in qmm and an intensity (Table 1-8). -/
structure Sample where
  range : BitVec 16
  intensity : Byte
  deriving DecidableEq, Repr

/-- The commands. The docstring of each names its row of the table and the rule that owns it. -/
inductive Instr where
  /-- TRAIN_ACK (R2): a TRAIN_ACK frame of head `h` that passes its check, with its rate code. -/
  | trainAck (h : HeadId) (rate : Byte)
  /-- REV_START (R3). -/
  | revStart (h : HeadId) (number : BitVec 16) (rate : Byte)
  /-- SAMPLE_BLOCK (R4). -/
  | sampleBlock (h : HeadId) (block : Byte) (samples : Vector Sample 64)
  /-- REV_END (R5). -/
  | revEnd (h : HeadId) (number : BitVec 16) (count : BitVec 16)
  /-- SETTLE_TIMER_EXPIRY (R8). -/
  | settleTimerExpiry (h : HeadId)
  /-- ATTEMPT_TIMER_EXPIRY (R10). -/
  | attemptTimerExpiry (h : HeadId)
  /-- REVOLUTION_WATCHDOG_EXPIRY (R11). -/
  | revolutionWatchdogExpiry (h : HeadId)
  /-- HEAD_RESTART (R20): request 0x30. -/
  | headRestart (p : PortId) (head : Byte)
  /-- HEAD_POWER_OFF (R21): request 0x31. -/
  | headPowerOff (p : PortId) (head : Byte)
  /-- READ_HEAD_STATUS (R22): request 0x32. -/
  | readHeadStatus (p : PortId) (head : Byte)
  /-- SELECT_HEAD_COUNTER (R23): request 0x33. -/
  | selectHeadCounter (p : PortId) (head : Byte) (selection : Byte)
  /-- CLEAR_HEAD_COUNTER (R23): request 0x34. -/
  | clearHeadCounter (p : PortId) (head : Byte)
  /-- CONVERSION (R25): a conversion of a channel completes with a raw code from 0 to 4095. -/
  | conversion (ch : Channel) (raw : BitVec 12)
  /-- READ_SENSE (R35): request 0x38. -/
  | readSense (p : PortId)
  /-- ENCODER_TRANSITION (R37): the phase pair of an encoder becomes `phase`. -/
  | encoderTransition (side : Side) (phase : Phase)
  /-- WINDOW_END (R39). -/
  | windowEnd
  /-- SET_CHAINAGE (R53): request 0x13. -/
  | setChainage (p : PortId) (mm : BitVec 32)
  /-- MARK_EDGE (R62): a falling edge on MARK. -/
  | markEdge
  /-- READ_CAPTURES (R71): request 0x39. -/
  | readCaptures (p : PortId) (first : Byte) (count : Byte)
  /-- START_RUN (R74): request 0x10. -/
  | startRun (p : PortId)
  /-- STOP_RUN (R75): request 0x11. -/
  | stopRun (p : PortId)
  /-- ABORT_RUN (R77): request 0x12. -/
  | abortRun (p : PortId)
  /-- COMMIT (R137): the commit path, granted the store, completes its hold. -/
  | commit
  /-- STORE_GRANT (R149): the arbiter grants the released store to a waiting port and serves it. -/
  | storeGrant
  /-- READ_NEXT (R142): request 0x20. -/
  | readNext (p : PortId)
  /-- READ_BLOCK (R143): request 0x21. -/
  | readBlock (p : PortId) (count : Byte)
  /-- PEEK_RECORD (R144): request 0x22. -/
  | peekRecord (p : PortId) (seq : SeqNo)
  /-- SET_CURSOR (R145): request 0x23. -/
  | setCursor (p : PortId) (selector : Byte) (seq : SeqNo)
  /-- SET_CURSOR_MODE (R146): request 0x24. -/
  | setCursorMode (p : PortId) (mode : Byte)
  /-- READ_CURSOR (R147): request 0x25. -/
  | readCursor (p : PortId)
  /-- CLEAR_STORE (R148): request 0x26. -/
  | clearStore (p : PortId)
  /-- CLEAR_STOP (R158): request 0x14. -/
  | clearStop (p : PortId)
  /-- STATUS_POLL (R168): a transaction that is neither SEND nor FETCH. -/
  | statusPoll (p : PortId)
  /-- FETCH (R170): a FETCH during which `clocked` bytes of the answer are clocked out before CS[p] is deasserted. -/
  | fetch (p : PortId) (clocked : Nat)
  /-- LINK_TIMEOUT (R171): the link timer of port `p` reaches LINK_TIMEOUT[p] × 10 ms. -/
  | linkTimeout (p : PortId)
  /-- TAKE_LOCK (R173): request 0x08. -/
  | takeLock (p : PortId) (lock : Byte)
  /-- GIVE_LOCK (R173): request 0x09. -/
  | giveLock (p : PortId) (lock : Byte)
  /-- SET_SIGNALS (R175): request 0x04. -/
  | setSignals (p : PortId) (mask : SignalMask)
  /-- CLEAR_SIGNALS (R175): request 0x05. -/
  | clearSignals (p : PortId) (mask : SignalMask)
  /-- SET_SIGNAL_ENABLE (R175): request 0x06. -/
  | setSignalEnable (p : PortId) (mask : SignalMask)
  /-- READ_EVENTS (R176): request 0x02. -/
  | readEvents (p : PortId)
  /-- SET_EVENT_ENABLE (R176): request 0x03. -/
  | setEventEnable (p : PortId) (mask : EventMask)
  /-- TABLE_POINT (R178): request 0x0A. -/
  | tablePoint (p : PortId) (table : Byte) (index : BitVec 16)
  /-- TABLE_READ (R178): request 0x0B. -/
  | tableRead (p : PortId) (mode : Byte)
  /-- TABLE_WRITE (R178): request 0x0C with its advance mode and entry bytes; the pointer of the port says which entry. -/
  | tableWrite (p : PortId) (mode : Byte) (entry : List Byte)
  /-- TABLE_WRITE_HEAD_ENABLE (R7): request 0x0C with the pointer at HEAD_ENABLE[h]. -/
  | tableWriteHeadEnable (p : PortId) (mode : Byte) (entry : List Byte)
  /-- TABLE_WRITE_ENC_K (R40): request 0x0C with the pointer at ENC_K. -/
  | tableWriteEncK (p : PortId) (mode : Byte) (entry : List Byte)
  /-- TABLE_WRITE_LINK_TIMEOUT (R171): request 0x0C with the pointer at LINK_TIMEOUT[p]. -/
  | tableWriteLinkTimeout (p : PortId) (mode : Byte) (entry : List Byte)
  /-- TABLE_WRITE_MARKERS (R58): request 0x0C with the pointer in MARKERS. -/
  | tableWriteMarkers (p : PortId) (mode : Byte) (entry : List Byte)
  /-- TABLE_WRITE_ZONES (R124): request 0x0C with the pointer in ZONES. -/
  | tableWriteZones (p : PortId) (mode : Byte) (entry : List Byte)
  /-- TABLE_WRITE_PROFILES (R122): request 0x0C with the pointer in PROFILES. -/
  | tableWriteProfiles (p : PortId) (mode : Byte) (entry : List Byte)
  /-- READ_STATUS (R179): request 0x01. -/
  | readStatus (p : PortId)
  /-- PORT_RESET (R183): request 0x0E. -/
  | portReset (p : PortId)
  /-- SOFT_RESET (R181): request 0x0F. -/
  | softReset (p : PortId)
  /-- DEVICE_RESET (R180): power-on or RESETN low, ended with the encoder phases at the given levels (R56). -/
  | deviceReset (left : Phase) (right : Phase)
  /-- FRAME_FAILS_CHECK (R1): the bytes of a head link frame that fails its check. -/
  | frameFailsCheck (h : HeadId) (frame : List Byte)
  /-- FRAMING_REFUSAL (R169): the bytes of a SEND frame that its judging refuses. -/
  | framingRefusal (p : PortId) (frame : List Byte)
  /-- TABLE_WRITE_ADVICE_INPUT (R156): request 0x0C with the pointer at V_CFG, V_CRAWL, STORE_HIGH or MIN_REVS. -/
  | tableWriteAdviceInput (p : PortId) (mode : Byte) (entry : List Byte)
  deriving DecidableEq, Repr

end Sys2Proof
end

