-- ==== Sys2Proof/Machine/Frames.lean ====
section
/-! DEFINITION. Bytes on the wire (chapter 11): the byte order of multi-byte fields, the check value of every frame, the
judging of a SEND frame (R169) and the check of a head link frame (R1). -/

namespace Sys2Proof.Machine

/-- `n` bytes of a whole number, most significant byte first, signed numbers in two's complement (R185). -/
def bytesOf : Nat → Int → List Byte
  | 0, _ => []
  | n + 1, v => bytesOf n (v / 256) ++ [BitVec.ofInt 8 v]

/-- The unsigned value of bytes sent most significant byte first (R185). -/
def natOf (bytes : List Byte) : Nat := bytes.foldl (fun v b => v * 256 + b.toNat) 0

/-- The two's complement value of bytes sent most significant byte first (R185). -/
def intOf (bytes : List Byte) : Int :=
  let v := natOf bytes
  if 2 * v < 256 ^ bytes.length then v else (v : Int) - 256 ^ bytes.length

/-- One bit of the check value: generator polynomial 0x1021 (R1). -/
def crcBit (crc : BitVec 16) : BitVec 16 :=
  if crc.msb then (crc <<< 1) ^^^ 0x1021#16 else crc <<< 1

/-- Eight bits of the check value. -/
def crcShift : Nat → BitVec 16 → BitVec 16
  | 0, crc => crc
  | n + 1, crc => crcShift n (crcBit crc)

/-- One byte of the check value, most significant bit first (R1). -/
def crcByte (crc : BitVec 16) (b : Byte) : BitVec 16 :=
  crcShift 8 (crc ^^^ (b.setWidth 16 <<< 8))

/-- The check value over bytes: initial value 0xFFFF, no final inversion (R1). -/
def checkValue (bytes : List Byte) : BitVec 16 := bytes.foldl crcByte 0xFFFF#16

/-- A frame's body with its check value behind it, most significant byte first. -/
def withCheck (body : List Byte) : List Byte := body ++ bytesOf 2 (checkValue body).toNat

/-- The last two bytes of a frame are the check value of the bytes before them. -/
def checkMatches (frame : List Byte) : Bool :=
  decide (2 ≤ frame.length) && decide (frame.drop (frame.length - 2) = bytesOf 2 (checkValue (frame.take (frame.length - 2))).toNat)

/-! ## Request frames (R169, Table 11-4) -/

/-- What a command code takes: no such command, a payload of one exact length, or the 3 to 15 bytes of a TABLE WRITE. -/
inductive PayloadLength where
  | exact (n : Nat)
  | tableWrite
  deriving DecidableEq, Repr

/-- The payload length each command code of Table 11-4 takes; none for a code that is no command. -/
def payloadLength (code : Nat) : Option PayloadLength :=
  match code with
  | 0x01 => some (.exact 0)
  | 0x02 => some (.exact 0)
  | 0x03 => some (.exact 4)
  | 0x04 => some (.exact 2)
  | 0x05 => some (.exact 2)
  | 0x06 => some (.exact 2)
  | 0x08 => some (.exact 1)
  | 0x09 => some (.exact 1)
  | 0x0A => some (.exact 3)
  | 0x0B => some (.exact 1)
  | 0x0C => some .tableWrite
  | 0x0E => some (.exact 0)
  | 0x0F => some (.exact 0)
  | 0x10 => some (.exact 0)
  | 0x11 => some (.exact 0)
  | 0x12 => some (.exact 0)
  | 0x13 => some (.exact 4)
  | 0x14 => some (.exact 0)
  | 0x20 => some (.exact 0)
  | 0x21 => some (.exact 1)
  | 0x22 => some (.exact 4)
  | 0x23 => some (.exact 5)
  | 0x24 => some (.exact 1)
  | 0x25 => some (.exact 0)
  | 0x26 => some (.exact 0)
  | 0x30 => some (.exact 1)
  | 0x31 => some (.exact 1)
  | 0x32 => some (.exact 1)
  | 0x33 => some (.exact 2)
  | 0x34 => some (.exact 1)
  | 0x38 => some (.exact 0)
  | 0x39 => some (.exact 2)
  | _ => none

/-- The payload length fits what the command takes. -/
def lengthFits : PayloadLength → Nat → Bool
  | .exact n, m => decide (m = n)
  | .tableWrite, m => decide (3 ≤ m) && decide (m ≤ 15)

/-- The findings of R169, in their order. -/
inductive Finding where
  | frameError
  | badLengthFrame
  | unknownCommand
  | badLengthCommand
  | taken
  deriving DecidableEq, Repr

/-- R169: the first finding that applies to the bytes clocked in after a SEND. -/
def judgeFrame (frame : List Byte) : Finding :=
  match frame with
  | code :: len :: _ =>
    if frame.length < 4 ∨ checkMatches frame = false then .frameError
    else if 250 < len.toNat ∨ frame.length ≠ len.toNat + 4 then .badLengthFrame
    else
      match payloadLength code.toNat with
      | none => .unknownCommand
      | some l => if lengthFits l len.toNat then .taken else .badLengthCommand
  | _ => .frameError

/-- Whether a frame with this finding is a valid frame for the link (R169). -/
def findingValid : Finding → Bool
  | .frameError => false
  | .badLengthFrame => false
  | .unknownCommand => true
  | .badLengthCommand => true
  | .taken => true

/-- The command echo of a framing refusal: the received code, or 0 when fewer than 4 bytes arrived (R169). -/
def refusalEcho (frame : List Byte) : Byte :=
  if frame.length < 4 then 0 else frame.headD 0

/-! ## Head link frames (R1, Table 11-5) -/

/-- The length a frame type of Table 11-5 has when a head sends it; none for a type that is not one of the four. -/
def headFrameLength (type : Nat) : Option Nat :=
  match type with
  | 0x02 => some 4
  | 0x10 => some 6
  | 0x11 => some 196
  | 0x12 => some 7
  | _ => none

/-- R1: the frame passes its check. -/
def headFramePasses (frame : List Byte) : Bool :=
  match frame with
  | [] => false
  | type :: _ => decide (headFrameLength type.toNat = some frame.length) && checkMatches frame

/-- The TRAIN frame with a rate code (Table 11-5). -/
def trainFrame (rate : Byte) : List Byte := withCheck [0x01, rate]

end Sys2Proof.Machine
end

