-- ==== Sys2Proof/WellFormed.lean ====
section
/-! DEFINITION. Which commands can arise. The types of Syntax.lean bound every field but the byte lists; what is checked here is that
a TABLE WRITE has an entry that its frame can carry, and that the two damaged-frame events carry a frame that is damaged. A
code outside its set is no ground for refusal here: it can be sent, and the owning rule answers BAD_VALUE. -/

namespace Sys2Proof

/-- A TABLE WRITE frame carries 2 to 14 entry bytes behind its advance mode (R169, Table 11-4). -/
def entryFits (entry : List Byte) : Bool := decide (2 ≤ entry.length) && decide (entry.length ≤ 14)

/-- The command can arise. -/
def Instr.wellFormed : Instr → Bool
  | .tableWrite _ _ entry => entryFits entry
  | .tableWriteHeadEnable _ _ entry => entryFits entry
  | .tableWriteEncK _ _ entry => entryFits entry
  | .tableWriteLinkTimeout _ _ entry => entryFits entry
  | .tableWriteMarkers _ _ entry => entryFits entry
  | .tableWriteZones _ _ entry => entryFits entry
  | .tableWriteProfiles _ _ entry => entryFits entry
  | .tableWriteAdviceInput _ _ entry => entryFits entry
  | .frameFailsCheck _ frame => !Machine.headFramePasses frame
  | .framingRefusal _ frame => decide (Machine.judgeFrame frame ≠ .taken)
  | .trainAck _ _ => true
  | .revStart _ _ _ => true
  | .sampleBlock _ _ _ => true
  | .revEnd _ _ _ => true
  | .settleTimerExpiry _ => true
  | .attemptTimerExpiry _ => true
  | .revolutionWatchdogExpiry _ => true
  | .headRestart _ _ => true
  | .headPowerOff _ _ => true
  | .readHeadStatus _ _ => true
  | .selectHeadCounter _ _ _ => true
  | .clearHeadCounter _ _ => true
  | .conversion _ _ => true
  | .readSense _ => true
  | .encoderTransition _ _ => true
  | .windowEnd => true
  | .setChainage _ _ => true
  | .markEdge => true
  | .readCaptures _ _ _ => true
  | .startRun _ => true
  | .stopRun _ => true
  | .abortRun _ => true
  | .commit => true
  | .storeGrant => true
  | .readNext _ => true
  | .readBlock _ _ => true
  | .peekRecord _ _ => true
  | .setCursor _ _ _ => true
  | .setCursorMode _ _ => true
  | .readCursor _ => true
  | .clearStore _ => true
  | .clearStop _ => true
  | .statusPoll _ => true
  | .fetch _ _ => true
  | .linkTimeout _ => true
  | .takeLock _ _ => true
  | .giveLock _ _ => true
  | .setSignals _ _ => true
  | .clearSignals _ _ => true
  | .setSignalEnable _ _ => true
  | .readEvents _ => true
  | .setEventEnable _ _ => true
  | .tablePoint _ _ _ => true
  | .tableRead _ _ => true
  | .readStatus _ => true
  | .portReset _ => true
  | .softReset _ => true
  | .deviceReset _ _ => true

end Sys2Proof
end

