-- ==== Sys2Proof/Decode.lean ====
section
/-! DEFINITION. From bytes to commands. The rows of spec/opcode_table.json have no bit fields, so no word spells one. What the spec
does lay out are transactions and frames: `transactionOf` reads a transaction of a port (R168), `sendOf` the frame of a SEND (R169,
Table 11-4) and `headCommandOf` a frame on a head link (R1, Table 11-5), and `requestFrame` and `headFrame` write the frames of the
same tables. -/

namespace Sys2Proof

/-- The command a word of the opcode table spells: no row gives bits, so none does (log entry 17). -/
def decodeTableWord (_nbits _w : Nat) : Option Instr := none

namespace Machine

/-! ## SEND frames (Table 11-4) -/

/-- Byte i of a payload. -/
def byteAt (i : Nat) (payload : List Byte) : Byte := payload.getD i 0

/-- A number of w bits in the n bytes from i on, most significant byte first (R185). -/
def wordAt (w i n : Nat) (payload : List Byte) : BitVec w := BitVec.ofNat w (natOf ((payload.drop i).take n))

/-- The request of a command code with its payload (Table 11-4). Every TABLE WRITE reads as `tableWrite`: its pointer, not its frame,
says which row of the table it is (log entry 11). -/
def requestOf (p : PortId) (code : Nat) (payload : List Byte) : Option Instr :=
  match code with
  | 0x01 => some (.readStatus p)
  | 0x02 => some (.readEvents p)
  | 0x03 => some (.setEventEnable p (wordAt 32 0 4 payload))
  | 0x04 => some (.setSignals p (wordAt 16 0 2 payload))
  | 0x05 => some (.clearSignals p (wordAt 16 0 2 payload))
  | 0x06 => some (.setSignalEnable p (wordAt 16 0 2 payload))
  | 0x08 => some (.takeLock p (byteAt 0 payload))
  | 0x09 => some (.giveLock p (byteAt 0 payload))
  | 0x0A => some (.tablePoint p (byteAt 0 payload) (wordAt 16 1 2 payload))
  | 0x0B => some (.tableRead p (byteAt 0 payload))
  | 0x0C => some (.tableWrite p (byteAt 0 payload) (payload.drop 1))
  | 0x0E => some (.portReset p)
  | 0x0F => some (.softReset p)
  | 0x10 => some (.startRun p)
  | 0x11 => some (.stopRun p)
  | 0x12 => some (.abortRun p)
  | 0x13 => some (.setChainage p (wordAt 32 0 4 payload))
  | 0x14 => some (.clearStop p)
  | 0x20 => some (.readNext p)
  | 0x21 => some (.readBlock p (byteAt 0 payload))
  | 0x22 => some (.peekRecord p (wordAt 32 0 4 payload))
  | 0x23 => some (.setCursor p (byteAt 0 payload) (wordAt 32 1 4 payload))
  | 0x24 => some (.setCursorMode p (byteAt 0 payload))
  | 0x25 => some (.readCursor p)
  | 0x26 => some (.clearStore p)
  | 0x30 => some (.headRestart p (byteAt 0 payload))
  | 0x31 => some (.headPowerOff p (byteAt 0 payload))
  | 0x32 => some (.readHeadStatus p (byteAt 0 payload))
  | 0x33 => some (.selectHeadCounter p (byteAt 0 payload) (byteAt 1 payload))
  | 0x34 => some (.clearHeadCounter p (byteAt 0 payload))
  | 0x38 => some (.readSense p)
  | 0x39 => some (.readCaptures p (byteAt 0 payload) (byteAt 1 payload))
  | _ => none

/-- The payload of a frame: what stands between the length byte and the check value. -/
def payloadOf (frame : List Byte) : List Byte := (frame.drop 2).take (frame.length - 4)

/-- The command that a SEND of these bytes is: the request of a frame that passes the five findings of R169, and a framing refusal
otherwise. -/
def sendOf (p : PortId) (frame : List Byte) : Instr :=
  match judgeFrame frame with
  | .taken => (requestOf p (frame.headD 0).toNat (payloadOf frame)).getD (.framingRefusal p frame)
  | _ => .framingRefusal p frame

/-- The command that a transaction of port p is, from the whole bytes clocked in until CS[p] is deasserted (R168): SEND (0x5A) with the
frame behind it, FETCH (0xA5) with as many bytes clocked out as follow it, and a status poll for any other transaction byte, or for
none complete. -/
def transactionOf (p : PortId) (bytes : List Byte) : Instr :=
  match bytes with
  | [] => .statusPoll p
  | b :: rest =>
    if b.toNat = 0x5A then sendOf p rest
    else if b.toNat = 0xA5 then .fetch p rest.length
    else .statusPoll p

/-- The port, command code and payload of a request (Table 11-4); none for a command that is no request. -/
def requestParts : Instr → Option (PortId × Nat × List Byte)
  | .readStatus p => some (p, 0x01, [])
  | .readEvents p => some (p, 0x02, [])
  | .setEventEnable p m => some (p, 0x03, bytesOf 4 m.toNat)
  | .setSignals p m => some (p, 0x04, bytesOf 2 m.toNat)
  | .clearSignals p m => some (p, 0x05, bytesOf 2 m.toNat)
  | .setSignalEnable p m => some (p, 0x06, bytesOf 2 m.toNat)
  | .takeLock p k => some (p, 0x08, [k])
  | .giveLock p k => some (p, 0x09, [k])
  | .tablePoint p t i => some (p, 0x0A, t :: bytesOf 2 i.toNat)
  | .tableRead p m => some (p, 0x0B, [m])
  | .tableWrite p m e => some (p, 0x0C, m :: e)
  | .tableWriteHeadEnable p m e => some (p, 0x0C, m :: e)
  | .tableWriteEncK p m e => some (p, 0x0C, m :: e)
  | .tableWriteLinkTimeout p m e => some (p, 0x0C, m :: e)
  | .tableWriteMarkers p m e => some (p, 0x0C, m :: e)
  | .tableWriteZones p m e => some (p, 0x0C, m :: e)
  | .tableWriteProfiles p m e => some (p, 0x0C, m :: e)
  | .tableWriteAdviceInput p m e => some (p, 0x0C, m :: e)
  | .portReset p => some (p, 0x0E, [])
  | .softReset p => some (p, 0x0F, [])
  | .startRun p => some (p, 0x10, [])
  | .stopRun p => some (p, 0x11, [])
  | .abortRun p => some (p, 0x12, [])
  | .setChainage p mm => some (p, 0x13, bytesOf 4 mm.toNat)
  | .clearStop p => some (p, 0x14, [])
  | .readNext p => some (p, 0x20, [])
  | .readBlock p n => some (p, 0x21, [n])
  | .peekRecord p n => some (p, 0x22, bytesOf 4 n.toNat)
  | .setCursor p x n => some (p, 0x23, x :: bytesOf 4 n.toNat)
  | .setCursorMode p m => some (p, 0x24, [m])
  | .readCursor p => some (p, 0x25, [])
  | .clearStore p => some (p, 0x26, [])
  | .headRestart p h => some (p, 0x30, [h])
  | .headPowerOff p h => some (p, 0x31, [h])
  | .readHeadStatus p h => some (p, 0x32, [h])
  | .selectHeadCounter p h x => some (p, 0x33, [h, x])
  | .clearHeadCounter p h => some (p, 0x34, [h])
  | .readSense p => some (p, 0x38, [])
  | .readCaptures p a n => some (p, 0x39, [a, n])
  | .trainAck _ _ => none
  | .revStart _ _ _ => none
  | .sampleBlock _ _ _ => none
  | .revEnd _ _ _ => none
  | .settleTimerExpiry _ => none
  | .attemptTimerExpiry _ => none
  | .revolutionWatchdogExpiry _ => none
  | .conversion _ _ => none
  | .encoderTransition _ _ => none
  | .windowEnd => none
  | .markEdge => none
  | .commit => none
  | .storeGrant => none
  | .statusPoll _ => none
  | .fetch _ _ => none
  | .linkTimeout _ => none
  | .deviceReset _ _ => none
  | .frameFailsCheck _ _ => none
  | .framingRefusal _ _ => none

/-- A request frame: command code, payload length, payload, check value (section 11.2). -/
def frameOf (code : Nat) (payload : List Byte) : List Byte :=
  withCheck (BitVec.ofNat 8 code :: BitVec.ofNat 8 payload.length :: payload)

/-- The port and the frame of a request; none for a command that is no request. -/
def requestFrame (i : Instr) : Option (PortId × List Byte) :=
  (requestParts i).map fun x => (x.1, frameOf x.2.1 x.2.2)

/-! ## Head link frames (Table 11-5) -/

/-- Sample j of a SAMPLE_BLOCK frame, at byte offset 2 + 3j (section 11.3). -/
def sampleAt (frame : List Byte) (j : Nat) : Sample :=
  { range := wordAt 16 (2 + 3 * j) 2 frame, intensity := byteAt (4 + 3 * j) frame }

/-- The command that a frame received on HLRX[h] is (R1, Table 11-5). -/
def headCommandOf (h : HeadId) (frame : List Byte) : Instr :=
  if headFramePasses frame then
    match (frame.headD 0).toNat with
    | 0x02 => .trainAck h (byteAt 1 frame)
    | 0x10 => .revStart h (wordAt 16 1 2 frame) (byteAt 3 frame)
    | 0x11 => .sampleBlock h (byteAt 1 frame) (Vector.ofFn fun j => sampleAt frame j)
    | 0x12 => .revEnd h (wordAt 16 1 2 frame) (wordAt 16 3 2 frame)
    | _ => .frameFailsCheck h frame
  else .frameFailsCheck h frame

/-- A sample in three bytes: range, then intensity (Table 11-5). -/
def sampleBytes (x : Sample) : List Byte := bytesOf 2 x.range.toNat ++ [x.intensity]

/-- The head and the body, without its check value, of a head link frame; none for a command that is no such frame. -/
def headFrameBody : Instr → Option (HeadId × List Byte)
  | .trainAck h rate => some (h, [0x02, rate])
  | .revStart h n rate => some (h, 0x10 :: bytesOf 2 n.toNat ++ [rate])
  | .sampleBlock h b xs => some (h, 0x11 :: b :: (xs.toList.map sampleBytes).flatten)
  | .revEnd h n c => some (h, 0x12 :: bytesOf 2 n.toNat ++ bytesOf 2 c.toNat)
  | _ => none

/-- The head and the frame of a head link command (Table 11-5). -/
def headFrame (i : Instr) : Option (HeadId × List Byte) := (headFrameBody i).map fun x => (x.1, withCheck x.2)

end Machine
end Sys2Proof
end

