-- ==== Sys2Proof/Config.lean ====
section
/-! DEFINITION. What the part fixes once and for all (limits, durations, table sizes), and the free values: the points
that spec/ leaves open. A free value is opaque, so no proof can use a particular one. -/

namespace Sys2Proof.Config

/-- The highest chainage in millimetres (Table 1-4, R41). -/
def maxMm : Nat := 999999999

/-- The highest chainage in micrometres (R41). -/
def maxUm : Nat := 999999999999

/-- The power settle of a head, in µs (R8). -/
def settleUs : Nat := 200000

/-- One training attempt, in µs (R2). -/
def attemptUs : Nat := 50000

/-- The revolution watchdog, in µs (R3, R9, R11). -/
def watchdogUs : Nat := 40000

/-- One Chainage Unit window, in µs (R39). -/
def windowUs : Nat := 10000

/-- The time between two conversions of a period, in µs (R25). -/
def conversionUs : Nat := 400

/-- The unit of LINK_TIMEOUT[p], in µs (R171). -/
def linkUnitUs : Nat := 10000

/-- The edge suppression interval of the Marker Unit, in µs (R62). -/
def edgeGuardUs : Nat := 5000

/-- Shortest and longest accepted revolution period, in µs (R15). -/
def periodMinUs : Nat := 2000
def periodMaxUs : Nat := 40000

/-- Records the Profile Store holds (R135). -/
def storeCapacity : Nat := 2048

/-- Slices the queue holds in all, and slices it holds open (R83, R96). -/
def queueCapacity : Nat := 64
def openCapacity : Nat := 48

/-- Pending slices at which the Advice Unit demands a stop (R163). -/
def pendingStop : Nat := 8

/-- Travel between two slip checks, in µm (R42). -/
def slipTravelUm : Nat := 500000

/-- Travel that determines or reverses the motion direction, in µm (R46). -/
def directionUm : Nat := 50000

/-- Largest value of a saturating 16-bit and of a saturating 8-bit count. -/
def sat16 : Nat := 65535
def sat8 : Nat := 255

/-- FREE VALUE (log entry 3). R69: at a window end whose chainage is clamped, whether the miss comparison (`true`) or the
change to LOST (`false`) is taken first is open. Applied to the state's `freeCount`. -/
opaque missBeforeLost : Nat → Bool

/-- FREE VALUE (log entry 5). The place, among the events that fall due in the same microsecond, at which one more is
taken: spec/ gives the outcome of either order and prefers none. Applied to the state's `freeCount`. -/
opaque dueSlot : Nat → Nat

/-- FREE VALUE (log entry 6). The two bytes that Table 11-9 gives to the previous accepted revolution number, while its
presence indication is 0: no rule states them. Applied to the state's `freeCount`. -/
opaque absentRevolution : Nat → BitVec 16

/-- FREE VALUE (log entry 29). The raw code of a conversion that the Sense Converter makes on its own schedule: the voltage at
the input lies outside the part. Applied to the state's `freeCount`. -/
opaque inputCode : Nat → BitVec 12

/-- FREE VALUE (log entry 26). The place, among the steps of the delivery that bins a revolution, at which a write of a radius of the
same microsecond is taken: R113 gives the outcome of each and prefers none. Applied to the state's `freeCount` and to the number of
writes of the moment that were taken after it. -/
opaque writePlace : Nat → Nat → Nat

end Sys2Proof.Config
end

