-- ==== Sys2Proof/Machine/State.lean ====
section
/-! DEFINITION. The state of the TG640 as plain data, block by block as Table 1-1 names the blocks, and its value after a
device reset. Each field's docstring names the table or rule of spec/ that gives it. What is only another view of a field
(READY, ATTENTION, HPWR, STOP, the advice lines, the matching and lookup states, the speed, the fill) is computed from it. -/

namespace Sys2Proof.Machine

/-! ## Head Receivers (Table 1-6) -/

/-- Position in the head state machine (Table 1-9). -/
inductive HeadState where
  | off
  | powering
  | training
  | acquiring
  | locked
  | faulted
  deriving DecidableEq, Repr

/-- Samples per revolution (Table 1-7). -/
inductive Rate where
  | full
  | half
  | quarter
  deriving DecidableEq, Repr

/-- Last fault cause (Table 1-6). -/
inductive FaultCause where
  | none
  | line
  | supply
  | train
  deriving DecidableEq, Repr

/-- The classes of the selectable error counter (Table 1-12). -/
inductive CounterClass where
  | frameCheck
  | rejected
  | gap
  | late
  | discardedSamples
  | trainFailures
  deriving DecidableEq, Repr

/-- The open revolution (R3): what its REV_START fixed, and the samples stored since. -/
structure OpenRevolution where
  number : BitVec 16
  rateCode : Byte
  nextBlock : Nat
  broken : Bool
  startTime : Time
  headChainage : Nat
  cant : Int
  cantInvalid : Bool
  cantClamped : Bool
  /-- the revolution buffer, in sample index order (R4) -/
  samples : List Sample
  deriving DecidableEq, Repr

/-- The previous accepted revolution (R15). -/
structure AcceptedRevolution where
  number : BitVec 16
  startTime : Time
  deriving DecidableEq, Repr

structure HeadReceiver where
  state : HeadState
  rate : Rate
  trainFailures : Nat
  faultCause : FaultCause
  openRev : Option OpenRevolution
  previous : Option AcceptedRevolution
  /-- oldest first, at most four (R16) -/
  periods : List Nat
  averagedPeriod : Option Nat
  rejectionRun : Nat
  selection : CounterClass
  counter : Nat
  /-- remaining µs of each timer; absent when the timer is stopped (R6) -/
  settleTimer : Option Nat
  attemptTimer : Option Nat
  watchdog : Option Nat
  /-- the rate of the TRAIN frame most recently sent on HLTX[h] (R2); absent before the first -/
  trainSent : Option Rate
  deriving DecidableEq, Repr

/-! ## Sense Converter (Table 2-2) -/

inductive SupplyState where
  | inWindow
  | outOfWindow
  deriving DecidableEq, Repr

inductive LineClass where
  | shortGnd
  | normal
  | opened
  | shortSupply
  deriving DecidableEq, Repr

inductive CantStatus where
  | notYet
  | valid
  | invalid
  deriving DecidableEq, Repr

/-- Window (raw codes, oldest first, at most eight) and filtered code of one channel (R25, R26). -/
structure SenseChannel where
  window : List (BitVec 12)
  filtered : Option Nat
  deriving DecidableEq, Repr

structure SupplyMonitor where
  channel : SenseChannel
  state : SupplyState
  count : Nat
  deriving DecidableEq, Repr

structure LineMonitor where
  channel : SenseChannel
  cls : LineClass
  candidate : Option LineClass
  count : Nat
  deriving DecidableEq, Repr

structure CantMonitor where
  channel : SenseChannel
  value : Int
  status : CantStatus
  clamped : Bool
  deriving DecidableEq, Repr

structure SenseConverter where
  cant : CantMonitor
  supply1 : SupplyMonitor
  supply2 : SupplyMonitor
  line1 : LineMonitor
  line2 : LineMonitor
  deriving DecidableEq, Repr

/-! ## Chainage Unit (Table 3-1) -/

inductive Health where
  | healthy
  | failed
  deriving DecidableEq, Repr

/-- A determined direction; `Option Direction` is a direction that may be UNDETERMINED. -/
inductive Direction where
  | increasing
  | decreasing
  deriving DecidableEq, Repr

inductive Quality where
  | lost
  | degraded
  | deadReckoned
  | surveyed
  deriving DecidableEq, Repr

structure Encoder where
  /-- the phase pair that stands at the pins, the reference for the next transition (R37, R56) -/
  phase : Phase
  delta : Int
  illegal : Nat
  health : Health
  deriving DecidableEq, Repr

structure ChainageUnit where
  /-- chainage in µm -/
  chainage : Nat
  /-- fusion remainder, in units of 1/(2 × ENC_K) µm -/
  remainder : Int
  left : Encoder
  right : Encoder
  slipTravel : Nat
  slipLeft : Nat
  slipRight : Nat
  slip : Bool
  /-- |d| of the last four windows in µm, oldest first (R45) -/
  speedHistory : Vector Nat 4
  direction : Option Direction
  reversal : Nat
  determination : Int
  /-- travel since survey in µm (R48) -/
  travel : Nat
  quality : Quality
  deriving DecidableEq, Repr

/-! ## Marker Unit (Tables 4-1 and 4-2) -/

inductive MarkerKind where
  | check
  | ring
  deriving DecidableEq, Repr

structure MarkerEntry where
  enabled : Bool
  surveyed : Nat
  window : Nat
  kind : MarkerKind
  deriving DecidableEq, Repr

inductive CaptureResult where
  | applied
  | appliedJump
  | checked
  | unexpected
  | ignoredEdit
  | ignoredSuspended
  | ignoredLost
  deriving DecidableEq, Repr

/-- One capture record (R67). -/
structure Capture where
  time : Time
  chainageBefore : Nat
  marker : Option Nat
  correction : Int
  result : CaptureResult
  deriving DecidableEq, Repr

structure MarkerUnit where
  table : Vector MarkerEntry 256
  suspended : Bool
  nextExpected : Option Nat
  missCount : Nat
  lastEdge : Option Time
  suppressed : Nat
  captureTotal : BitVec 32
  /-- newest first, at most sixteen (R67) -/
  log : List Capture
  deriving DecidableEq, Repr

/-! ## Envelope Tables (Tables 7-1 and 7-2) -/

/-- A zone entry of the list. -/
structure ZoneEntry where
  enabled : Bool
  start : Nat
  stopAt : Nat
  profile : Nat
  margin : Nat
  confirm : Nat
  stop : Bool
  deriving DecidableEq, Repr

/-- The DEFAULT zone. -/
structure DefaultZone where
  profile : Nat
  margin : Nat
  confirm : Nat
  stop : Bool
  deriving DecidableEq, Repr

/-- What a lookup answers and a slice keeps (R125); index 32 is DEFAULT. -/
structure ZoneChoice where
  index : Nat
  profile : Nat
  margin : Nat
  confirm : Nat
  stop : Bool
  deriving DecidableEq, Repr

structure EnvelopeTables where
  /-- radius[p][s] at 64 × p + s (R122) -/
  radii : Vector Nat 512
  zones : Vector ZoneEntry 32
  default : DefaultZone
  suspended : Bool
  deriving DecidableEq, Repr

/-! ## Slices: Slice Builder and Sector Engine (Tables 5-2, 5-3, 5-5, 6-1, 6-2) -/

inductive RunState where
  | idle
  | running
  | draining
  deriving DecidableEq, Repr

/-- The flags a slice takes while open; the manner of its closing and THIN and PROVISIONAL are added at the close. -/
structure SliceFlags where
  forced : Bool
  flushed : Bool
  corrected : Bool
  overrun : Bool
  thin : Bool
  cantHeld : Bool
  cantClamped : Bool
  provisional : Bool
  deriving DecidableEq, Repr

/-- A present head part (R89), counts at full width. -/
structure HeadPart where
  revolutions : Nat
  valid : Nat
  discarded : Nat
  lowestRate : Rate
  cantSum : Int
  deriving DecidableEq, Repr

/-- Contents of one sector of an open slice (Table 6-1). -/
structure SectorContents where
  minimum : Option Nat
  hits : Nat
  intrusions : Nat
  deriving DecidableEq, Repr

inductive SectorState where
  | noData
  | unchecked
  | clear
  | warn
  | suspect
  | infringe
  deriving DecidableEq, Repr

/-- Result of one sector of a closed slice (Table 6-2). -/
structure SectorResult where
  state : SectorState
  hits : Nat
  intrusions : Nat
  clearance : Int
  deriving DecidableEq, Repr

/-- What a slice holds from its opening to its record (Table 5-3). -/
structure SliceHeader where
  index : Nat
  run : BitVec 16
  segment : BitVec 16
  direction : Direction
  openTime : Time
  zone : ZoneChoice
  lowest : Quality
  skipped : Nat
  overruns : Nat
  flags : SliceFlags
  part1 : Option HeadPart
  part2 : Option HeadPart
  deriving DecidableEq, Repr

structure OpenSlice where
  header : SliceHeader
  sectors : Vector SectorContents 64
  /-- the edit mark of the Envelope Tables (R127, R128) -/
  editMark : Bool
  deriving DecidableEq, Repr

structure PendingSlice where
  header : SliceHeader
  closeTime : Time
  sectors : Vector SectorResult 64
  cls : SectorState
  worstSector : Option Nat
  worstClearance : Int
  deriving DecidableEq, Repr

/-- A write of a radius that has been taken: its table index, and the radius that stood before it. -/
structure RadiusWrite where
  index : Nat
  before : Nat
  deriving DecidableEq, Repr

structure SliceBuilder where
  run : RunState
  runNumber : BitVec 16
  segment : BitVec 16
  direction : Option Direction
  lastOpened : Option Nat
  lastClosed : Option Nat
  /-- the pending part of the queue, oldest first -/
  pendingSlices : List PendingSlice
  /-- the open part of the queue, rearmost first -/
  openSlices : List OpenSlice
  carriedSkipped : Nat
  carriedOverruns : Nat
  stale1 : Bool
  stale2 : Bool
  /-- the moments at which the stale marks were set (the model's own, log entry 4) -/
  staleTime1 : Time
  staleTime2 : Time
  /-- the moment of the last close test that found a slice open; none since the reset (the model's own, log entry 28) -/
  lastTest : Option Time
  /-- the writes of a radius taken since the timebase last advanced, newest first, that no binning has met (the model's own, log
  entry 26) -/
  radiusWrites : List RadiusWrite
  deriving DecidableEq, Repr

/-! ## Profile Store and Store Arbiter (Tables 8-1 to 8-3) -/

inductive CursorMode where
  | follow
  | retain
  deriving DecidableEq, Repr

structure Cursor where
  position : SeqNo
  mode : CursorMode
  missed : Nat
  deriving DecidableEq, Repr

/-- The party the store is granted to (Table 8-3). -/
inductive Holder where
  | none
  | commitPath
  | port (p : PortId)
  deriving DecidableEq, Repr

/-- The place SET CURSOR asks for (R145). -/
inductive CursorTarget where
  | oldest
  | newestPlusOne
  | number (n : SeqNo)
  deriving DecidableEq, Repr

/-- A request served through the Store Arbiter, waiting in its port's slot (R149). -/
inductive StoreRequest where
  | readNext
  | readBlock (count : Nat)
  | peek (n : SeqNo)
  | setCursor (target : CursorTarget)
  | clear
  deriving DecidableEq, Repr

/-- A 480-byte record image (Table 11-6). -/
abbrev RecordImage := List Byte

structure ProfileStore where
  /-- the records held, oldest first (R135) -/
  records : List RecordImage
  nextSeq : SeqNo
  cursor0 : Cursor
  cursor1 : Cursor
  cursor2 : Cursor
  holder : Holder
  commitWaiting : Bool
  lastGranted : PortId
  commitBlocked : Bool
  /-- the retention test made at the grant of the present commit refused it (R137, R146) -/
  testRefused : Bool
  /-- a retry event was taken while the commit path holds the store (R139) -/
  retryKept : Bool
  deriving DecidableEq, Repr

/-! ## Advice Unit (Table 9-1) -/

inductive LastStop where
  | none
  | set
  | cleared (p : PortId)
  deriving DecidableEq, Repr

inductive Level where
  | stop
  | crawl
  | limit
  | free
  deriving DecidableEq, Repr

/-- The five results of an evaluation (R156). -/
structure Advice where
  vCov : Option Nat
  storeFill : Bool
  quality : Bool
  headMissing : Bool
  latch : Bool
  pending : Bool
  qualityLost : Bool
  noHead : Bool
  vAdv : Nat
  level : Level
  deriving DecidableEq, Repr

structure AdviceUnit where
  stopLatch : Bool
  lastStop : LastStop
  advice : Advice
  deriving DecidableEq, Repr

/-! ## Master Ports and Lock Table (Table 10-1, section 10.4) -/

inductive Lock where
  | envelope
  | markers
  | setup
  deriving DecidableEq, Repr

inductive Table where
  | setup
  | profiles
  | zones
  | markers
  deriving DecidableEq, Repr

/-- Answer statuses (Table 10-3). -/
inductive Status where
  | ok
  | clamped
  | granted
  | held
  | notHolder
  | orderError
  | lockRequired
  | runActive
  | notReady
  | lineAbnormal
  | badValue
  | indexRange
  | empty
  | evicted
  | notYet
  | frameError
  | badLength
  | unknownCommand
  | noAnswer
  deriving DecidableEq, Repr

/-- An answer: status, command echo and payload; its length and check value follow from these (chapter 11). -/
structure Answer where
  status : Status
  echo : Byte
  payload : List Byte
  deriving DecidableEq, Repr

/-- The request slot with what it holds (R169, R170). A slot is WORKING between steps only while its request waits for the store,
or has been granted it at another party's release and not yet been served, because every other request is carried out at once. -/
inductive Slot where
  | idle
  | working (request : StoreRequest) (echo : Byte)
  | ready (answer : Answer)
  deriving DecidableEq, Repr

/-- Link state with its timer (R171): while UP, the µs since the last valid frame. -/
inductive Link where
  | down
  | up (elapsed : Nat)
  deriving DecidableEq, Repr

structure MasterPort where
  link : Link
  slot : Slot
  latch : EventMask
  eventEnable : EventMask
  signalEnable : SignalMask
  table : Table
  index : Nat
  /-- the bytes clocked out on SDO[p] in the port's last transaction (R168, R170) -/
  sdo : List Byte
  deriving DecidableEq, Repr

structure LockTable where
  envelope : Option PortId
  markers : Option PortId
  setup : Option PortId
  deriving DecidableEq, Repr

/-! ## Setup Table (Table 11-13) -/

inductive Orientation where
  | forward
  | reversed
  deriving DecidableEq, Repr

structure HeadSetup where
  enable : Bool
  maxRate : Rate
  downspeed : Nat
  offset : Int
  zero : Int
  phase : Nat
  shadow : BitVec 64
  intensityFloor : Nat
  deriving DecidableEq, Repr

structure SupplySetup where
  low : Nat
  high : Nat
  deriving DecidableEq, Repr

structure Setup where
  head1 : HeadSetup
  head2 : HeadSetup
  rangeMin : Nat
  rangeMax : Nat
  orientation : Orientation
  sliceLength : Nat
  minRevs : Nat
  encK : Nat
  slipTol : Nat
  surveyHold : Nat
  missLimit : Nat
  cantZero : Nat
  cantGain : Nat
  avgCant : Nat
  avgSupply1 : Nat
  avgSupply2 : Nat
  avgLine1 : Nat
  avgLine2 : Nat
  supply1 : SupplySetup
  supply2 : SupplySetup
  vCfg : Nat
  vCrawl : Nat
  storeHigh : Nat
  stopEnable : Bool
  linkTimeout0 : Nat
  linkTimeout1 : Nat
  linkTimeout2 : Nat
  deriving DecidableEq, Repr

/-! ## The whole part -/

structure State where
  /-- the commands waiting, first in, first out (the model's own) -/
  pending : List Instr
  timebase : Time
  /-- µs of the Chainage Unit window in progress (section 3.3) -/
  windowTime : Nat
  /-- µs since the last conversion completed, or since the reset (R25) -/
  conversionTime : Nat
  /-- the channel that the Sense Converter converts next, in the order of R25 -/
  nextChannel : Channel
  head1 : HeadReceiver
  head2 : HeadReceiver
  scv : SenseConverter
  chu : ChainageUnit
  mku : MarkerUnit
  env : EnvelopeTables
  slb : SliceBuilder
  pst : ProfileStore
  adv : AdviceUnit
  port0 : MasterPort
  port1 : MasterPort
  port2 : MasterPort
  locks : LockTable
  signals : SignalMask
  setup : Setup
  /-- how many free values have been used (the model's own; it only feeds the opaque constants of Config) -/
  freeCount : Nat
  deriving DecidableEq, Repr

/-- Why the part stops with a fault. No constructor: the spec gives every command an effect in every state, so no meaning
faults. Safe: nothing is left out by stopping. -/
inductive Fault where
  deriving DecidableEq, Repr

/-- Why the model refuses a command. -/
inductive Refusal where
  /-- raised by an arm of `exec` for a command that has no meaning in the model yet; no arm raises it. Safe. -/
  | notModelled (mnemonic : String)
  deriving DecidableEq, Repr

/-! ## Reset values -/

/-- R24, with no head enabled. -/
def HeadReceiver.reset : HeadReceiver :=
  { state := .off, rate := .full, trainFailures := 0, faultCause := .none, openRev := none, previous := none, periods := [],
    averagedPeriod := none, rejectionRun := 0, selection := .frameCheck, counter := 0, settleTimer := none,
    attemptTimer := none, watchdog := none, trainSent := none }

/-- R36. -/
def SenseChannel.reset : SenseChannel := { window := [], filtered := none }
def SupplyMonitor.reset : SupplyMonitor := { channel := .reset, state := .inWindow, count := 0 }
def LineMonitor.reset : LineMonitor := { channel := .reset, cls := .normal, candidate := none, count := 0 }
def CantMonitor.reset : CantMonitor := { channel := .reset, value := 0, status := .notYet, clamped := false }
def SenseConverter.reset : SenseConverter :=
  { cant := .reset, supply1 := .reset, supply2 := .reset, line1 := .reset, line2 := .reset }

/-- R56: the phase pair is read afresh at the pins. -/
def Encoder.reset (phase : Phase) : Encoder := { phase := phase, delta := 0, illegal := 0, health := .healthy }

/-- R56. -/
def ChainageUnit.reset (left right : Phase) : ChainageUnit :=
  { chainage := 0, remainder := 0, left := .reset left, right := .reset right, slipTravel := 0, slipLeft := 0, slipRight := 0,
    slip := false, speedHistory := Vector.replicate 4 0, direction := none, reversal := 0, determination := 0, travel := 0,
    quality := .lost }

/-- R73: a disabled entry of the marker table. -/
def MarkerEntry.reset : MarkerEntry := { enabled := false, surveyed := 0, window := 10, kind := .check }

/-- R73. -/
def MarkerUnit.reset : MarkerUnit :=
  { table := Vector.replicate 256 .reset, suspended := false, nextExpected := none, missCount := 0, lastEdge := none,
    suppressed := 0, captureTotal := 0, log := [] }

/-- R134. -/
def ZoneEntry.reset : ZoneEntry :=
  { enabled := false, start := 0, stopAt := 0, profile := 0, margin := 0, confirm := 1, stop := false }
def DefaultZone.reset : DefaultZone := { profile := 0, margin := 0, confirm := 1, stop := false }
def EnvelopeTables.reset : EnvelopeTables :=
  { radii := Vector.replicate 512 0, zones := Vector.replicate 32 .reset, default := .reset, suspended := false }

/-- R100. -/
def SliceBuilder.reset : SliceBuilder :=
  { run := .idle, runNumber := 0, segment := 0, direction := none, lastOpened := none, lastClosed := none,
    pendingSlices := [], openSlices := [], carriedSkipped := 0, carriedOverruns := 0, stale1 := false, stale2 := false,
    staleTime1 := 0, staleTime2 := 0, lastTest := none, radiusWrites := [] }

/-- R155. -/
def Cursor.reset : Cursor := { position := 0, mode := .follow, missed := 0 }
def ProfileStore.reset : ProfileStore :=
  { records := [], nextSeq := 0, cursor0 := .reset, cursor1 := .reset, cursor2 := .reset, holder := .none,
    commitWaiting := false, lastGranted := .p2, commitBlocked := false, testRefused := false, retryKept := false }

/-- R167: the advice after a reset, V_adv being V_CFG. -/
def Advice.reset (vCfg : Nat) : Advice :=
  { vCov := none, storeFill := false, quality := false, headMissing := false, latch := false, pending := false,
    qualityLost := false, noHead := false, vAdv := vCfg, level := .free }
def AdviceUnit.reset (vCfg : Nat) : AdviceUnit := { stopLatch := false, lastStop := .none, advice := .reset vCfg }

/-- R180. -/
def MasterPort.reset : MasterPort :=
  { link := .down, slot := .idle, latch := 0, eventEnable := 0, signalEnable := 0, table := .setup, index := 0, sdo := [] }
def LockTable.reset : LockTable := { envelope := none, markers := none, setup := none }

/-- Table 11-13. -/
def HeadSetup.reset : HeadSetup :=
  { enable := false, maxRate := .full, downspeed := 2, offset := 0, zero := 0, phase := 0, shadow := 0, intensityFloor := 8 }
def SupplySetup.reset : SupplySetup := { low := 2600, high := 3400 }
def Setup.reset : Setup :=
  { head1 := .reset, head2 := .reset, rangeMin := 400, rangeMax := 60000, orientation := .forward, sliceLength := 100,
    minRevs := 2, encK := 10000, slipTol := 20, surveyHold := 200, missLimit := 2, cantZero := 2048, cantGain := 256,
    avgCant := 4, avgSupply1 := 4, avgSupply2 := 4, avgLine1 := 4, avgLine2 := 4, supply1 := .reset, supply2 := .reset,
    vCfg := 2000, vCrawl := 300, storeHigh := 1536, stopEnable := true, linkTimeout0 := 50, linkTimeout1 := 50,
    linkTimeout2 := 50 }

/-- The part after a device reset that ends with the encoder phases at `left` and `right` (R24, R36, R56, R73, R100, R134,
R155, R167, R180). -/
def State.resetWith (left right : Phase) : State :=
  { pending := [], timebase := 0, windowTime := 0, conversionTime := 0, nextChannel := .cant, head1 := .reset, head2 := .reset,
    scv := .reset, chu := .reset left right, mku := .reset, env := .reset, slb := .reset, pst := .reset,
    adv := .reset Setup.reset.vCfg, port0 := .reset, port1 := .reset, port2 := .reset, locks := .reset, signals := 0,
    setup := .reset, freeCount := 0 }

/-- The part right after reset. The levels of the encoder phases belong to the wheels: DESIGN CHOICE (log entry 2), both
low. -/
def State.reset : State := State.resetWith ⟨false, false⟩ ⟨false, false⟩

end Sys2Proof.Machine
end

