-- ==== Sys2Proof/Machine/Operands.lean ====
section
/-! DEFINITION. The codes of Table 11-1 and the answer statuses of Table 11-3: what a field of a payload stands for, and the
code a value is reported by. A received code outside its set has no value (`none`), and the owning rule answers BAD_VALUE. -/

namespace Sys2Proof.Machine

/-! ## Received codes -/

/-- The head a request names: 1 or 2 (R20). -/
def headOf (b : Byte) : Option HeadId :=
  match b.toNat with
  | 1 => some .h1
  | 2 => some .h2
  | _ => none

def rateOf (v : Int) : Option Rate :=
  if v = 1 then some .full else if v = 2 then some .half else if v = 3 then some .quarter else none

def selectionOf (b : Byte) : Option CounterClass :=
  match b.toNat with
  | 0 => some .frameCheck
  | 1 => some .rejected
  | 2 => some .gap
  | 3 => some .late
  | 4 => some .discardedSamples
  | 5 => some .trainFailures
  | _ => none

def lockOf (b : Byte) : Option Lock :=
  match b.toNat with
  | 0 => some .envelope
  | 1 => some .markers
  | 2 => some .setup
  | _ => none

def tableOf (b : Byte) : Option Table :=
  match b.toNat with
  | 0 => some .setup
  | 1 => some .profiles
  | 2 => some .zones
  | 3 => some .markers
  | _ => none

/-- Advance modes of TABLE READ and TABLE WRITE (R178). -/
inductive Advance where
  | none
  | afterAny
  | afterWrite
  deriving DecidableEq, Repr

def advanceOf (b : Byte) : Option Advance :=
  match b.toNat with
  | 0 => some .none
  | 1 => some .afterAny
  | 2 => some .afterWrite
  | _ => Option.none

def cursorModeOf (b : Byte) : Option CursorMode :=
  match b.toNat with
  | 0 => some .follow
  | 1 => some .retain
  | _ => none

/-- R145: the selector of SET CURSOR with its sequence number. -/
def cursorTargetOf (selector : Byte) (n : SeqNo) : Option CursorTarget :=
  match selector.toNat with
  | 0 => some .oldest
  | 1 => some .newestPlusOne
  | 2 => some (.number n)
  | _ => none

/-- Yes/no and off/on. -/
def flagOf (v : Int) : Option Bool :=
  if v = 0 then some false else if v = 1 then some true else none

def kindOf (v : Int) : Option MarkerKind :=
  if v = 0 then some .check else if v = 1 then some .ring else none

def orientationOf (v : Int) : Option Orientation :=
  if v = 0 then some .forward else if v = 1 then some .reversed else none

/-! ## Reported codes -/

def flagCode (b : Bool) : Nat := if b then 1 else 0

def headNumber : HeadId → Nat
  | .h1 => 1
  | .h2 => 2

def portNumber : PortId → Nat
  | .p0 => 0
  | .p1 => 1
  | .p2 => 2

def rateCode : Rate → Nat
  | .full => 1
  | .half => 2
  | .quarter => 3

def headStateCode : HeadState → Nat
  | .off => 0
  | .powering => 1
  | .training => 2
  | .acquiring => 3
  | .locked => 4
  | .faulted => 5

def faultCauseCode : FaultCause → Nat
  | .none => 0
  | .line => 1
  | .supply => 2
  | .train => 3

def qualityCode : Quality → Nat
  | .lost => 0
  | .degraded => 1
  | .deadReckoned => 2
  | .surveyed => 3

def directionCode : Option Direction → Nat
  | none => 0
  | some .increasing => 1
  | some .decreasing => 2

def sectorStateCode : SectorState → Nat
  | .noData => 0
  | .unchecked => 1
  | .clear => 2
  | .warn => 3
  | .suspect => 4
  | .infringe => 5

def runStateCode : RunState → Nat
  | .idle => 0
  | .running => 1
  | .draining => 2

def levelCode : Level → Nat
  | .stop => 0
  | .crawl => 1
  | .limit => 2
  | .free => 3

def lineClassCode : LineClass → Nat
  | .shortGnd => 0
  | .normal => 1
  | .opened => 2
  | .shortSupply => 3

def supplyStateCode : SupplyState → Nat
  | .inWindow => 0
  | .outOfWindow => 1

def cantStatusCode : CantStatus → Nat
  | .notYet => 0
  | .valid => 1
  | .invalid => 2

def captureResultCode : CaptureResult → Nat
  | .applied => 0
  | .appliedJump => 1
  | .checked => 2
  | .unexpected => 3
  | .ignoredEdit => 4
  | .ignoredSuspended => 5
  | .ignoredLost => 6

def cursorModeCode : CursorMode → Nat
  | .follow => 0
  | .retain => 1

def selectionCode : CounterClass → Nat
  | .frameCheck => 0
  | .rejected => 1
  | .gap => 2
  | .late => 3
  | .discardedSamples => 4
  | .trainFailures => 5

def kindCode : MarkerKind → Nat
  | .check => 0
  | .ring => 1

def orientationCode : Orientation → Nat
  | .forward => 0
  | .reversed => 1

def healthFailed : Health → Bool
  | .healthy => false
  | .failed => true

/-- Table 11-3. -/
def statusCode : Status → Nat
  | .ok => 0x00
  | .clamped => 0x01
  | .granted => 0x02
  | .held => 0x03
  | .notHolder => 0x04
  | .orderError => 0x05
  | .lockRequired => 0x06
  | .runActive => 0x07
  | .notReady => 0x08
  | .lineAbnormal => 0x09
  | .badValue => 0x0A
  | .indexRange => 0x0B
  | .empty => 0x0C
  | .evicted => 0x0D
  | .notYet => 0x0E
  | .frameError => 0x10
  | .badLength => 0x11
  | .unknownCommand => 0x12
  | .noAnswer => 0x13

/-- A marker index of NONE is 0xFFFF (R185). -/
def markerIndexCode : Option Nat → Nat
  | none => 0xFFFF
  | some i => i

/-! ## Answer frames (section 11.2) -/

/-- The bytes of an answer frame: status, command echo, payload length, payload, check value. -/
def answerFrame (a : Answer) : List Byte :=
  withCheck ([BitVec.ofNat 8 (statusCode a.status), a.echo] ++ bytesOf 2 a.payload.length ++ a.payload)

/-! ## Arithmetic shared by the blocks (section 1.6.3) -/

/-- Division by `den` with rounding half away from zero (R32, R89, R107). -/
def roundDiv (num : Int) (den : Nat) : Int :=
  let q : Nat := num.natAbs / den + (if den ≤ 2 * (num.natAbs % den) then 1 else 0)
  if num < 0 then -(q : Int) else q

/-- A value brought to the nearer end of its range. -/
def clampInt (lo hi v : Int) : Int := if v < lo then lo else if hi < v then hi else v

/-- A saturating count. -/
def addSat (limit n k : Nat) : Nat := min limit (n + k)

end Sys2Proof.Machine
end

