-- ==== Sys2Proof/Machine/Ops.lean ====
section
/-! DEFINITION. The named places of the state and how they are read and written: heads, ports, cursors, locks, encoders and
the setup quantities that a head or a port has for itself. -/

namespace Sys2Proof.Machine

/-- What a command answers. -/
abbrev Result := Host.Outcome State Fault Refusal

/-! ## Heads -/

def State.head (s : State) : HeadId → HeadReceiver
  | .h1 => s.head1
  | .h2 => s.head2

def State.setHead (s : State) (h : HeadId) (r : HeadReceiver) : State :=
  match h with
  | .h1 => { s with head1 := r }
  | .h2 => { s with head2 := r }

def otherHead : HeadId → HeadId
  | .h1 => .h2
  | .h2 => .h1

def Setup.head (u : Setup) : HeadId → HeadSetup
  | .h1 => u.head1
  | .h2 => u.head2

def Setup.setHead (u : Setup) (h : HeadId) (v : HeadSetup) : Setup :=
  match h with
  | .h1 => { u with head1 := v }
  | .h2 => { u with head2 := v }

def headLocked (s : State) (h : HeadId) : Bool := decide ((s.head h).state = .locked)

/-- The stale mark of a head (R79, R81). -/
def staleMark (s : State) : HeadId → Bool
  | .h1 => s.slb.stale1
  | .h2 => s.slb.stale2

def setStale (s : State) (h : HeadId) (b : Bool) : State :=
  match h with
  | .h1 => { s with slb := { s.slb with stale1 := b } }
  | .h2 => { s with slb := { s.slb with stale2 := b } }

/-- The moment at which the stale mark of a head was set (log entry 4). -/
def staleMoment (s : State) : HeadId → Time
  | .h1 => s.slb.staleTime1
  | .h2 => s.slb.staleTime2

/-! ## Ports -/

def State.port (s : State) : PortId → MasterPort
  | .p0 => s.port0
  | .p1 => s.port1
  | .p2 => s.port2

def State.setPort (s : State) (p : PortId) (m : MasterPort) : State :=
  match p with
  | .p0 => { s with port0 := m }
  | .p1 => { s with port1 := m }
  | .p2 => { s with port2 := m }

/-- The same change of each of the three ports. -/
def State.mapPorts (s : State) (f : PortId → MasterPort → MasterPort) : State :=
  { s with port0 := f .p0 s.port0, port1 := f .p1 s.port1, port2 := f .p2 s.port2 }

def setSlot (p : PortId) (x : Slot) (s : State) : State := s.setPort p { s.port p with slot := x }

/-- The link of the port, as bit 3 of its status byte tells it. -/
def linkUp (m : MasterPort) : Bool :=
  match m.link with
  | .down => false
  | .up _ => true

/-- LINK_TIMEOUT[p] (Table 11-13). -/
def Setup.linkTimeout (u : Setup) : PortId → Nat
  | .p0 => u.linkTimeout0
  | .p1 => u.linkTimeout1
  | .p2 => u.linkTimeout2

def Setup.setLinkTimeout (u : Setup) (p : PortId) (v : Nat) : Setup :=
  match p with
  | .p0 => { u with linkTimeout0 := v }
  | .p1 => { u with linkTimeout1 := v }
  | .p2 => { u with linkTimeout2 := v }

/-! ## Cursors -/

def ProfileStore.cursor (t : ProfileStore) : PortId → Cursor
  | .p0 => t.cursor0
  | .p1 => t.cursor1
  | .p2 => t.cursor2

def ProfileStore.setCursor (t : ProfileStore) (p : PortId) (c : Cursor) : ProfileStore :=
  match p with
  | .p0 => { t with cursor0 := c }
  | .p1 => { t with cursor1 := c }
  | .p2 => { t with cursor2 := c }

def setCursorOf (p : PortId) (c : Cursor) (s : State) : State := { s with pst := s.pst.setCursor p c }

/-- The number of records held (R135). -/
def fill (t : ProfileStore) : Nat := t.records.length

/-- The oldest sequence, next − fill modulo 2^32 (R135). -/
def oldestSeq (t : ProfileStore) : SeqNo := t.nextSeq - BitVec.ofNat 32 (fill t)

/-- The newest sequence, next − 1 modulo 2^32 (R135). -/
def newestSeq (t : ProfileStore) : SeqNo := t.nextSeq - 1

/-- The offset of a sequence number from the oldest, modulo 2^32 (R136). -/
def seqOffset (t : ProfileStore) (n : SeqNo) : Nat := (n - oldestSeq t).toNat

/-- The number of records available to a cursor (R136). -/
def availableTo (t : ProfileStore) (c : Cursor) : Nat := fill t - seqOffset t c.position

/-! ## Locks -/

def LockTable.holder (l : LockTable) : Lock → Option PortId
  | .envelope => l.envelope
  | .markers => l.markers
  | .setup => l.setup

def LockTable.setHolder (l : LockTable) (k : Lock) (v : Option PortId) : LockTable :=
  match k with
  | .envelope => { l with envelope := v }
  | .markers => { l with markers := v }
  | .setup => { l with setup := v }

/-- The port holds the lock. -/
def holds (s : State) (p : PortId) (k : Lock) : Bool := decide (s.locks.holder k = some p)

def setLock (k : Lock) (v : Option PortId) (s : State) : State := { s with locks := s.locks.setHolder k v }

/-! ## Chainage Unit and Sense Converter places -/

def ChainageUnit.encoder (c : ChainageUnit) : Side → Encoder
  | .left => c.left
  | .right => c.right

def ChainageUnit.setEncoder (c : ChainageUnit) (side : Side) (e : Encoder) : ChainageUnit :=
  match side with
  | .left => { c with left := e }
  | .right => { c with right := e }

def otherSide : Side → Side
  | .left => .right
  | .right => .left

def SenseConverter.supply (c : SenseConverter) : HeadId → SupplyMonitor
  | .h1 => c.supply1
  | .h2 => c.supply2

def SenseConverter.setSupply (c : SenseConverter) (h : HeadId) (m : SupplyMonitor) : SenseConverter :=
  match h with
  | .h1 => { c with supply1 := m }
  | .h2 => { c with supply2 := m }

def SenseConverter.line (c : SenseConverter) : HeadId → LineMonitor
  | .h1 => c.line1
  | .h2 => c.line2

def SenseConverter.setLine (c : SenseConverter) (h : HeadId) (m : LineMonitor) : SenseConverter :=
  match h with
  | .h1 => { c with line1 := m }
  | .h2 => { c with line2 := m }

def Setup.supply (u : Setup) : HeadId → SupplySetup
  | .h1 => u.supply1
  | .h2 => u.supply2

def Setup.avgSupply (u : Setup) : HeadId → Nat
  | .h1 => u.avgSupply1
  | .h2 => u.avgSupply2

def Setup.avgLine (u : Setup) : HeadId → Nat
  | .h1 => u.avgLine1
  | .h2 => u.avgLine2

/-! ## Derived quantities that several blocks read -/

/-- The chainage in whole millimetres (R41). -/
def chainageMm (s : State) : Nat := s.chu.chainage / 1000

/-- +1 with ORIENTATION FORWARD, −1 with REVERSED (section 3.1). -/
def orientationSign (u : Setup) : Int :=
  match u.orientation with
  | .forward => 1
  | .reversed => -1

/-- The head chainage of a head in mm, clamped to the range (R47). -/
def headChainage (s : State) (h : HeadId) : Nat :=
  (clampInt 0 Config.maxMm (chainageMm s + orientationSign s.setup * (s.setup.head h).offset)).toNat

/-- The speed in mm/s (R45). -/
def speed (c : ChainageUnit) : Nat := min 10000 (c.speedHistory.toList.sum / 40)

/-- A fresh free value has been used. -/
def useFree (s : State) : State := { s with freeCount := s.freeCount + 1 }

end Sys2Proof.Machine
end

