-- ==== Sys2Proof/Machine/Flags.lean ====
section
/-! DEFINITION. Events, latches and the lines the part drives: raising an event (R176), ATTENTION (R177), READY (R170), the
port status byte (R168, Table 11-2), head power (R6), STOP (R160) and the two advice lines (Table 9-3). -/

namespace Sys2Proof.Machine

/-- The events of Table 10-5, in its order. -/
inductive Event where
  | headState
  | lineFault
  | supplyRange
  | cantInvalid
  | qualityChange
  | markerCapture
  | markerMiss
  | segmentBreak
  | runState
  | overrun
  | recordInfringe
  | recordWarn
  | storeHighReached
  | dataAvailable
  | recordsMissed
  | stopChange
  | adviceChange
  | portDown
  | lockForced
  deriving DecidableEq, Repr

/-- The place of an event in the latch: bits 0 to 18 in the order of Table 10-5 (R176). -/
def eventBit : Event → Nat
  | .headState => 0
  | .lineFault => 1
  | .supplyRange => 2
  | .cantInvalid => 3
  | .qualityChange => 4
  | .markerCapture => 5
  | .markerMiss => 6
  | .segmentBreak => 7
  | .runState => 8
  | .overrun => 9
  | .recordInfringe => 10
  | .recordWarn => 11
  | .storeHighReached => 12
  | .dataAvailable => 13
  | .recordsMissed => 14
  | .stopChange => 15
  | .adviceChange => 16
  | .portDown => 17
  | .lockForced => 18

/-- The latch with the event outstanding. -/
def latched (e : Event) (latch : EventMask) : EventMask := latch ||| (1#32 <<< eventBit e)

/-- Whether an event is outstanding in a port's latch (R176). -/
def outstanding (e : Event) (m : MasterPort) : Bool := m.latch.getLsbD (eventBit e)

/-- The event becomes outstanding in one port's latch. -/
def raiseIn (e : Event) (p : PortId) (s : State) : State := s.setPort p { s.port p with latch := latched e (s.port p).latch }

/-- The event becomes outstanding in all three latches. -/
def raiseAll (e : Event) (s : State) : State := s.mapPorts fun _ m => { m with latch := latched e m.latch }

/-- The event becomes outstanding in the latches of the other two ports (PORT_DOWN, R171). -/
def raiseOthers (e : Event) (p : PortId) (s : State) : State :=
  s.mapPorts fun q m => if q = p then m else { m with latch := latched e m.latch }

/-- ATTENTION[p] (R177): an enabled event is outstanding, or an enabled signal is set. -/
def attention (s : State) (p : PortId) : Bool :=
  decide ((s.port p).latch &&& (s.port p).eventEnable ≠ 0) || decide (s.signals &&& (s.port p).signalEnable ≠ 0)

/-- READY[p] (R170): asserted exactly while the slot is ANSWER_READY. -/
def ready (s : State) (p : PortId) : Bool :=
  match (s.port p).slot with
  | .ready _ => true
  | _ => false

/-- Slot state as bits 1:0 of the status byte (Table 11-2). -/
def slotCode : Slot → Nat
  | .idle => 0
  | .working _ _ => 1
  | .ready _ => 2

/-- The port status byte as it stands (R168, Table 11-2). -/
def statusByte (s : State) (p : PortId) : Byte :=
  BitVec.ofNat 8 (slotCode (s.port p).slot + 4 * flagCode (attention s p) + 8 * flagCode (linkUp (s.port p)) +
    16 * portNumber p + 128)

/-- HPWR[h] (R6, Table 1-9). -/
def headPower (s : State) (h : HeadId) : Bool :=
  match (s.head h).state with
  | .off => false
  | .faulted => false
  | _ => true

/-- The STOP line (R160). -/
def stopLine (s : State) : Bool := s.adv.stopLatch

/-- The lines ADV1 and ADV0 (Table 9-3). -/
def adviceLines (s : State) : Bool × Bool :=
  match s.adv.advice.level with
  | .stop => (false, false)
  | .crawl => (false, true)
  | .limit => (true, false)
  | .free => (true, true)

/-! ## States that follow from a lock and a suspension flag -/

/-- Matching state of the Marker Unit and lookup state of the Envelope Tables (Table 4-1, R126). -/
inductive TableState where
  | active
  | edit
  | suspended
  deriving DecidableEq, Repr

def tableState (holder : Option PortId) (suspended : Bool) : TableState :=
  match holder, suspended with
  | some _, _ => .edit
  | none, true => .suspended
  | none, false => .active

def matchingState (s : State) : TableState := tableState s.locks.markers s.mku.suspended
def lookupState (s : State) : TableState := tableState s.locks.envelope s.env.suspended

def tableStateCode : TableState → Nat
  | .active => 0
  | .edit => 1
  | .suspended => 2

/-! ## Error counter of a head (R23) -/

/-- `n` events of a class that belong to a head: counted, saturating at 255, while the class is selected. -/
def countEvents (h : HeadId) (c : CounterClass) (n : Nat) (s : State) : State :=
  if (s.head h).selection = c then s.setHead h { s.head h with counter := addSat Config.sat8 (s.head h).counter n } else s

end Sys2Proof.Machine
end

