-- ==== Sys2Proof/Machine/Advice.lean ====
section
/-! DEFINITION. The Advice Unit (chapter 9): the evaluation of R161 to R164 and the stop latch (R157). -/

namespace Sys2Proof.Machine

/-- Some head is LOCKED. -/
def anyLocked (s : State) : Bool := headLocked s .h1 || headLocked s .h2

/-- The averaged period of a head if the head is LOCKED, else 0, so that the larger of the two is P_max (R161). -/
def lockedPeriod (s : State) (h : HeadId) : Nat :=
  if headLocked s h then (s.head h).averagedPeriod.getD 0 else 0

/-- P_max (R161). -/
def maxPeriod (s : State) : Nat := max (lockedPeriod s .h1) (lockedPeriod s .h2)

/-- The run is RUNNING. -/
def isRunning (s : State) : Bool := decide (s.slb.run = .running)

/-- The coverage limit (R161). -/
def coverageLimit (s : State) : Option Nat :=
  if isRunning s && anyLocked s then some (s.setup.sliceLength * 1000000 / (maxPeriod s * s.setup.minRevs)) else none

/-- CRAWL condition STORE_FILL (R162). -/
def causeStoreFill (s : State) : Bool := isRunning s && decide (s.setup.storeHigh ≤ fill s.pst)

/-- CRAWL condition QUALITY (R162). -/
def causeQuality (s : State) : Bool := isRunning s && decide (s.chu.quality = .degraded)

/-- CRAWL condition HEAD_MISSING (R162). -/
def causeHeadMissing (s : State) : Bool :=
  isRunning s && ((s.setup.head1.enable && !headLocked s .h1 && headLocked s .h2) ||
    (s.setup.head2.enable && !headLocked s .h2 && headLocked s .h1))

/-- STOP condition LATCH (R163), looked at in every run state. -/
def causeLatch (s : State) : Bool := s.adv.stopLatch

/-- STOP condition PENDING (R163). -/
def causePending (s : State) : Bool := isRunning s && decide (Config.pendingStop ≤ s.slb.pendingSlices.length)

/-- STOP condition QUALITY_LOST (R163). -/
def causeQualityLost (s : State) : Bool := isRunning s && decide (s.chu.quality = .lost)

/-- STOP condition NO_HEAD (R163). -/
def causeNoHead (s : State) : Bool := isRunning s && !anyLocked s

/-- The advised speed before the CRAWL and STOP conditions: min(V_CFG, V_cov), or V_CFG while V_cov is absent (R161). -/
def baseSpeed (vCfg : Nat) : Option Nat → Nat
  | none => vCfg
  | some v => min vCfg v

/-- The level by the first row of Table 9-3 that holds (R164). -/
def levelOf (vCfg vAdv : Nat) (crawl : Bool) : Level :=
  if vAdv = 0 then .stop else if crawl then .crawl else if vAdv < vCfg then .limit else .free

/-- One evaluation from the inputs as they stand (R156, R161 to R164). -/
def adviceOf (s : State) : Advice :=
  let crawl := causeStoreFill s || causeQuality s || causeHeadMissing s
  let stop := causeLatch s || causePending s || causeQualityLost s || causeNoHead s
  let base := baseSpeed s.setup.vCfg (coverageLimit s)
  let slowed := if crawl then min base s.setup.vCrawl else base
  let vAdv := if stop then 0 else slowed
  { vCov := coverageLimit s, storeFill := causeStoreFill s, quality := causeQuality s, headMissing := causeHeadMissing s,
    latch := causeLatch s, pending := causePending s, qualityLost := causeQualityLost s, noHead := causeNoHead s,
    vAdv := vAdv, level := levelOf s.setup.vCfg vAdv crawl }

/-- The Advice Unit evaluates afresh (R156) and raises ADVICE_CHANGE when the level changes (R164). -/
def evaluateAdvice (s : State) : State :=
  let t := { s with adv := { s.adv with advice := adviceOf s } }
  if (adviceOf s).level = s.adv.advice.level then t else raiseAll .adviceChange t

/-- R157: the report of a closing slice's class and its zone's stop flag. -/
def reportClass (cls : SectorState) (stop : Bool) (s : State) : State :=
  if cls = .infringe ∧ stop = true ∧ s.setup.stopEnable = true ∧ s.adv.stopLatch = false then
    evaluateAdvice (raiseAll .stopChange { s with adv := { s.adv with stopLatch := true, lastStop := .set } })
  else s

/-- R158: CLEAR STOP from a port. -/
def clearStopLatch (p : PortId) (s : State) : State :=
  if s.adv.stopLatch then
    evaluateAdvice (raiseAll .stopChange { s with adv := { s.adv with stopLatch := false, lastStop := .cleared p } })
  else s

end Sys2Proof.Machine
end

