-- ==== Sys2Proof/Machine/Arbiter.lean ====
section
/-! DEFINITION. The Store Arbiter (section 8.6): who is granted the store, when the commit path asks for it (R137, R139) and
what a release leads to (R149). A commit holds the store from its grant to its completion by COMMIT. A port that is granted a free
store is served in the same step; one that is granted the store at a release holds it until STORE_GRANT serves it (log entry 8). -/

namespace Sys2Proof.Machine

/-- The port has a store request in work, which waits for a grant unless the port is the holder (Table 8-3). -/
def portWaiting (s : State) (p : PortId) : Bool :=
  match (s.port p).slot with
  | .working _ _ => true
  | _ => false

def anyPortWaiting (s : State) : Bool := portWaiting s .p0 || portWaiting s .p1 || portWaiting s .p2

/-- The store is free: nobody holds it and no port waits (R149). -/
def storeFree (s : State) : Bool := decide (s.pst.holder = .none) && !anyPortWaiting s

/-- The retention test (R137): the store is full and a RETAIN cursor stands at the oldest record. -/
def retained (t : ProfileStore) : Bool :=
  decide (fill t = Config.storeCapacity) &&
    ([t.cursor0, t.cursor1, t.cursor2].any fun c => decide (c.mode = .retain) && decide (c.position = oldestSeq t))

/-- The commit path is granted the store and makes its retention test (R137); commit blocked returns to no (R139). -/
def grantCommit (s : State) : State :=
  { s with pst := { s.pst with holder := .commitPath, commitWaiting := false, commitBlocked := false,
                               testRefused := retained s.pst, retryKept := false } }

/-- The commit path asks for the store (R149). -/
def askCommit (s : State) : State :=
  if storeFree s then grantCommit s else { s with pst := { s.pst with commitWaiting := true } }

/-- A retry event (R139): a refused commit asks again; one taken while the commit path holds the store is kept. -/
def retryEvent (s : State) : State :=
  if s.pst.commitBlocked then (if s.pst.commitWaiting then s else askCommit s)
  else if s.pst.holder = .commitPath then { s with pst := { s.pst with retryKept := true } }
  else s

/-- The next port in rotation after the last one granted that waits (R149). -/
def nextWaiting (s : State) : Option PortId :=
  let order : List PortId :=
    match s.pst.lastGranted with
    | .p0 => [.p1, .p2, .p0]
    | .p1 => [.p2, .p0, .p1]
    | .p2 => [.p0, .p1, .p2]
  order.find? (portWaiting s)

/-- The store is granted to a port, which becomes the last port granted (R149). -/
def grantPort (p : PortId) (s : State) : State := { s with pst := { s.pst with holder := .port p, lastGranted := p } }

/-- R149: the released store goes to the next waiting port in rotation, and is free when none waits. -/
def grantNextPort (s : State) : State :=
  match nextWaiting s with
  | some p => grantPort p s
  | none => { s with pst := { s.pst with holder := .none } }

/-- A port releases the store: a waiting commit is granted first, then the waiting ports in rotation (R149). -/
def releaseByPort (s : State) : State := if s.pst.commitWaiting then grantCommit s else grantNextPort s

/-- The commit path gives up its hold, its test and a kept retry event with it, and the store goes on (R137, R139, R149). -/
def endCommitHold (s : State) : State := grantNextPort { s with pst := { s.pst with testRefused := false, retryKept := false } }

/-- ABORT RUN ends a commit that waits or holds the store, and commit blocked returns to no (R77, R139); a store that the commit
held is released (R149). R77 and R151 say of an abort that is taken first only that the slice is discarded: that the hold ends
with the abort, that the store then goes at once to the next waiting port in rotation, and that a commit that only waits is
withdrawn, is the model's form (DESIGN CHOICE, unsafe, log entry 30). -/
def abandonCommit (s : State) : State :=
  let t := { s with pst := { s.pst with commitWaiting := false, commitBlocked := false, testRefused := false, retryKept := false } }
  if s.pst.holder = .commitPath then endCommitHold t else t

end Sys2Proof.Machine
end

