-- ==== Sys2Proof/Machine/Envelope.lean ====
section
/-! DEFINITION. The Envelope Tables (chapter 7): zone lookup (R125) and the validation of the zone list (R129). -/

namespace Sys2Proof.Machine

/-- The key lies in the zone: start ≤ key < end, and the entry is enabled (section 7.1). -/
def zoneHolds (key : Nat) (z : ZoneEntry) : Bool := z.enabled && decide (z.start ≤ key) && decide (key < z.stopAt)

def choiceOf (i : Nat) (z : ZoneEntry) : ZoneChoice :=
  { index := i, profile := z.profile, margin := z.margin, confirm := z.confirm, stop := z.stop }

def defaultChoice (d : DefaultZone) : ZoneChoice :=
  { index := 32, profile := d.profile, margin := d.margin, confirm := d.confirm, stop := d.stop }

/-- The lowest-numbered enabled entry from index i on that holds the key. -/
def findZone (key : Nat) : Nat → List ZoneEntry → Option ZoneChoice
  | _, [] => none
  | i, z :: zs => if zoneHolds key z then some (choiceOf i z) else findZone key (i + 1) zs

/-- R125: the zone of a slice with lower bound `key`. -/
def lookupZone (s : State) (key : Nat) : ZoneChoice :=
  match lookupState s with
  | .active => (findZone key 0 s.env.zones.toList).getD (defaultChoice s.env.default)
  | _ => defaultChoice s.env.default

/-- Two entries overlap when each starts below the other's end (R126). -/
def zonesOverlap (a b : ZoneEntry) : Bool := decide (a.start < b.stopAt) && decide (b.start < a.stopAt)

/-- R129: an enabled entry fails when its start is not below its end, or when it overlaps an enabled entry of lower index
whose start is below its end. -/
def zoneFails (earlier : List ZoneEntry) (z : ZoneEntry) : Bool :=
  z.enabled && (decide (z.stopAt ≤ z.start) ||
    earlier.any fun y => y.enabled && decide (y.start < y.stopAt) && zonesOverlap y z)

/-- The first failing entry from index i on, given the entries before it (R129). -/
def firstFailingZone : Nat → List ZoneEntry → List ZoneEntry → Option Nat
  | _, _, [] => none
  | i, earlier, z :: zs => if zoneFails earlier z then some i else firstFailingZone (i + 1) (earlier ++ [z]) zs

/-- The first failing entry of the list, none when the list is valid (R129). -/
def zoneListFault (e : EnvelopeTables) : Option Nat := firstFailingZone 0 [] e.zones.toList

/-- R127: a take of the ENVELOPE lock sets the edit mark on every open slice. -/
def markOpenSlices (s : State) : State :=
  { s with slb := { s.slb with openSlices := s.slb.openSlices.map fun x => { x with editMark := true } } }

/-- R131: the Envelope Tables at a forced release, and R134: at a soft reset with the lock held. -/
def suspendZones (s : State) : State :=
  if (zoneListFault s.env).isSome then { s with env := { s.env with suspended := true } } else s

end Sys2Proof.Machine
end

