-- ==== Sys2Proof/Machine/Sector.lean ====
section
/-! DEFINITION. The Sector Engine's arithmetic (chapter 6): the five stages a sample and a closing slice pass. -/

namespace Sys2Proof.Machine

/-- Samples per revolution, N (Table 1-7). -/
def rateSamples : Rate → Nat
  | .full => 2048
  | .half => 1024
  | .quarter => 512

/-- Blocks per revolution, B (Table 1-7). -/
def rateBlocks : Rate → Nat
  | .full => 32
  | .half => 16
  | .quarter => 8

/-- Angle units per sample index (Table 1-7). -/
def angleStep : Rate → Nat
  | .full => 1
  | .half => 2
  | .quarter => 4

/-- What is read once per revolution, at the start of its binning (R102, Table 6-3). -/
structure SampleSetup where
  zero : Int
  phase : Nat
  shadow : BitVec 64
  intensityFloor : Nat
  rangeMin : Nat
  rangeMax : Nat
  orientation : Orientation
  step : Nat
  cantOffset : Int
  deriving DecidableEq, Repr

/-- The cant offset in angle units (R107). -/
def cantOffset (cant : Int) : Int := roundDiv (cant * 256) 4500

/-- The quantities of Table 6-3 for a revolution of a head at a rate with a cant snapshot (R102). -/
def sampleSetup (u : Setup) (h : HeadId) (rate : Rate) (cant : Int) : SampleSetup :=
  { zero := (u.head h).zero, phase := (u.head h).phase, shadow := (u.head h).shadow,
    intensityFloor := (u.head h).intensityFloor, rangeMin := u.rangeMin, rangeMax := u.rangeMax,
    orientation := u.orientation, step := angleStep rate, cantOffset := cantOffset cant }

/-- The corrected range, clamped to 0 to 65535 (R105). -/
def correctedRange (c : SampleSetup) (raw : Nat) : Nat := (clampInt 0 65535 (raw + c.zero)).toNat

/-- Stage 1 (R104 to R106): the corrected range of a sample that passes, none for an invalid one. -/
def stageRange (c : SampleSetup) (x : Sample) : Option Nat :=
  let raw := x.range.toNat
  if raw = 0 ∨ raw = 65535 ∨ x.intensity.toNat < c.intensityFloor then none
  else
    let rc := correctedRange c raw
    if rc < c.rangeMin ∨ c.rangeMax < rc then none else some rc

/-- Stage 2 (R108): the angle in the track frame before mirroring. -/
def trackAngle (c : SampleSetup) (k : Nat) : Nat := (((k * c.step + c.phase : Nat) + c.cantOffset) % 2048).toNat

/-- Stage 2 (R109): the angle after mirroring. -/
def mirrored (o : Orientation) (a : Nat) : Nat :=
  match o with
  | .forward => a
  | .reversed => (2048 - a) % 2048

/-- Stage 3 (R110): the sector of the sample at index k. -/
def sampleSector (c : SampleSetup) (k : Nat) : Nat := mirrored c.orientation (trackAngle c k) / 32

/-- Stages 1 to 3: corrected range and sector of a valid sample, none for an invalid one (R104 to R110). -/
def judgeSample (c : SampleSetup) (k : Nat) (x : Sample) : Option (Nat × Nat) :=
  match stageRange c x with
  | none => none
  | some rc => if c.shadow.getLsbD (sampleSector c k) then none else some (rc, sampleSector c k)

/-- The lower of a minimum range that may be absent and a range (R112). -/
def lowerOf : Option Nat → Nat → Nat
  | none, rc => rc
  | some m, rc => min m rc

/-- Stage 4 (R112, R113): one sector takes a valid sample, judged against its radius as it stands. -/
def takeSample (radius rc : Nat) (x : SectorContents) : SectorContents :=
  { minimum := some (lowerOf x.minimum rc),
    hits := addSat Config.sat8 x.hits 1,
    intrusions := if 0 < radius ∧ rc < radius then addSat Config.sat8 x.intrusions 1 else x.intrusions }

/-- radius[p][s] (R122). -/
def radius (e : EnvelopeTables) (profile sector : Nat) : Nat := (e.radii[64 * profile + sector]?).getD 0

/-- What a binning carries from sample to sample: the sectors, and the valid and discarded samples so far (R111). -/
structure BinResult where
  sectors : Vector SectorContents 64
  valid : Nat
  discarded : Nat
  deriving DecidableEq, Repr

/-- One sample of a revolution (R111 to R113). -/
def binSample (e : EnvelopeTables) (profile : Nat) (c : SampleSetup) (k : Nat) (x : Sample) (r : BinResult) : BinResult :=
  match judgeSample c k x with
  | none => { r with discarded := r.discarded + 1 }
  | some (rc, sector) =>
    let old := (r.sectors[sector]?).getD ⟨none, 0, 0⟩
    { r with valid := r.valid + 1,
             sectors := r.sectors.setIfInBounds sector (takeSample (radius e profile sector) rc old) }

/-- The samples from index k on, in ascending order (R102), each against the Envelope Tables as they stand at its own binning, `e k` for
the sample at index k (R113, R123). -/
def binSamples (e : Nat → EnvelopeTables) (profile : Nat) (c : SampleSetup) : Nat → List Sample → BinResult → BinResult
  | _, [], r => r
  | k, x :: xs, r => binSamples e profile c (k + 1) xs (binSample (e k) profile c k x r)

/-- Fresh sector contents (R101). -/
def freshSectors : Vector SectorContents 64 := Vector.replicate 64 ⟨none, 0, 0⟩

/-! ## Stage 5: close -/

/-- The clearance of a sector with data, clamped (R116). -/
def clearanceOf (minimum radius : Nat) : Int := clampInt (-32768) 32767 ((minimum : Int) - radius)

/-- Table 6-7 with R116: state and clearance of a sector with minimum range `minimum` against radius `e`. -/
def judgeSector (e margin confirm : Nat) (x : SectorContents) : SectorResult :=
  if x.hits = 0 then ⟨.noData, x.hits, x.intrusions, 0⟩
  else if e = 0 then ⟨.unchecked, x.hits, x.intrusions, 0⟩
  else
    let g := clearanceOf (x.minimum.getD 0) e
    let state :=
      if confirm ≤ x.intrusions then .infringe
      else if 1 ≤ x.intrusions then .suspect
      else if g < margin then .warn
      else .clear
    ⟨state, x.hits, x.intrusions, g⟩

/-- The results of all 64 sectors against the radii of the slice's profile as they stand (R114). -/
def judgeSectors (e : EnvelopeTables) (z : ZoneChoice) (xs : Vector SectorContents 64) : Vector SectorResult 64 :=
  xs.mapIdx fun s x => judgeSector (radius e z.profile s) z.margin z.confirm x

/-- The more severe of two states (R118); the codes of Table 11-1 rise with severity. -/
def moreSevere (a b : SectorState) : SectorState := if sectorStateCode a < sectorStateCode b then b else a

/-- The slice class (R118). -/
def sliceClass (rs : List SectorResult) : SectorState := rs.foldl (fun c r => moreSevere c r.state) .noData

/-- Whether a sector may be the worst sector (R119). -/
def eligible (r : SectorResult) : Bool :=
  match r.state with
  | .noData => false
  | .unchecked => false
  | _ => true

/-- The worst sector from sector k on, against the best found before (R119): the lowest clearance, and of equal ones the
lowest sector number. -/
def worstFrom : Nat → List SectorResult → Option (Nat × Int) → Option (Nat × Int)
  | _, [], best => best
  | k, r :: rs, best =>
    worstFrom (k + 1) rs <|
      if eligible r then
        match best with
        | none => some (k, r.clearance)
        | some (j, g) => if r.clearance < g then some (k, r.clearance) else some (j, g)
      else best

/-- The worst sector with its clearance, none when no sector is eligible (R119). -/
def worstOf (rs : List SectorResult) : Option (Nat × Int) := worstFrom 0 rs none

end Sys2Proof.Machine
end

