-- ==== Sys2Proof/Machine/Slice.lean ====
section
/-! DEFINITION. The Slice Builder (chapter 5): choosing, opening, filling and closing slices, flushes, the close test and
segment breaks. -/

namespace Sys2Proof.Machine

/-! ## Direction words (Table 5-1) -/

/-- Index j is ahead of index k. -/
def aheadOf : Direction → Nat → Nat → Bool
  | .increasing, j, k => decide (k < j)
  | .decreasing, j, k => decide (j < k)

/-- Slice i of length l is passed by a position. -/
def passedBy : Direction → Nat → Nat → Nat → Bool
  | .increasing, l, i, x => decide ((i + 1) * l ≤ x)
  | .decreasing, l, i, x => decide (x < i * l)

/-- Position x lies behind position y along the direction. -/
def liesBehind : Direction → Nat → Nat → Bool
  | .increasing, x, y => decide (x < y)
  | .decreasing, x, y => decide (y < x)

/-! ## Closing (section 5.7) -/

/-- The manner of a close (R93). -/
inductive CloseKind where
  | passage
  | forced
  | flush
  deriving DecidableEq, Repr

/-- A head part with fewer revolutions than MIN_REVS; an absent part is not (R93). -/
def partThin (minRevs : Nat) : Option HeadPart → Bool
  | none => false
  | some q => decide (q.revolutions < minRevs)

/-- The flags of a slice at its close (R93, R128). -/
def closeFlags (kind : CloseKind) (minRevs : Nat) (x : OpenSlice) : SliceFlags :=
  { x.header.flags with
    forced := decide (kind = .forced), flushed := decide (kind = .flush),
    thin := partThin minRevs x.header.part1 || partThin minRevs x.header.part2,
    provisional := x.editMark }

/-- Steps 1 to 3 of R93: the closed slice, its sectors judged against the radii as they stand. -/
def closedSlice (kind : CloseKind) (s : State) (x : OpenSlice) : PendingSlice :=
  let rs := judgeSectors s.env x.header.zone x.sectors
  { header := { x.header with flags := closeFlags kind s.setup.minRevs x }, closeTime := s.timebase, sectors := rs,
    cls := sliceClass rs.toList, worstSector := (worstOf rs.toList).map Prod.fst,
    worstClearance := ((worstOf rs.toList).map Prod.snd).getD 0 }

/-- Step 4 of R93: the slice becomes the newest pending one, and is offered to the store if it is also the oldest (R96). -/
def appendPending (x : PendingSlice) (rest : List OpenSlice) (s : State) : State :=
  let first := s.slb.pendingSlices.isEmpty
  let t := evaluateAdvice { s with slb := { s.slb with openSlices := rest, pendingSlices := s.slb.pendingSlices ++ [x],
                                                       lastClosed := some x.header.index } }
  if first then askCommit t else t

/-- R93: the rearmost open slice closes. -/
def closeRearmost (kind : CloseKind) (s : State) : State :=
  match s.slb.openSlices with
  | [] => s
  | x :: rest =>
    let c := closedSlice kind s x
    reportClass c.cls c.header.zone.stop (appendPending c rest s)

/-- The n rearmost open slices close, in index order. -/
def closeMany (kind : CloseKind) : Nat → State → State
  | 0, s => s
  | n + 1, s => closeMany kind n (closeRearmost kind s)

/-- R95: every open slice closes FLUSHED, rearmost first. -/
def flush (s : State) : State := closeMany .flush s.slb.openSlices.length s

/-- The position of a head in the close test (R92): its live head chainage, or the snapshot of its open revolution where that
lies behind. -/
def headPosition (s : State) (d : Direction) (h : HeadId) : Nat :=
  let live := headChainage s h
  match (s.head h).openRev with
  | none => live
  | some r => if liesBehind d r.headChainage live then r.headChainage else live

/-- The slice is passed by every LOCKED head (R92). -/
def passedByAll (s : State) (x : OpenSlice) : Bool :=
  [HeadId.h1, HeadId.h2].all fun h =>
    !headLocked s h || passedBy x.header.direction s.setup.sliceLength x.header.index (headPosition s x.header.direction h)

/-- At most n closes by passage, ending at the first open slice that some LOCKED head has not passed (R92). -/
def closeTestFrom : Nat → State → State
  | 0, s => s
  | n + 1, s =>
    match s.slb.openSlices with
    | [] => s
    | x :: _ => if passedByAll s x then closeTestFrom n (closeRearmost .passage s) else s

/-- The moment of a close test is kept (log entry 28). -/
def noteTest (s : State) : State := { s with slb := { s.slb with lastTest := some s.timebase } }

/-- R92: the close test. One that finds no slice open does nothing. -/
def closeTest (s : State) : State :=
  if s.slb.openSlices.isEmpty then s else noteTest (closeTestFrom s.slb.openSlices.length s)

/-! ## The radii during a delivery (R113, R123) -/

/-- The Envelope Tables before the given writes of a radius, newest first. -/
def beforeWrites : List RadiusWrite → EnvelopeTables → EnvelopeTables
  | [], e => e
  | w :: ws, e => beforeWrites ws { e with radii := e.radii.setIfInBounds w.index w.before }

/-- The writes that a place of a delivery comes before: the newest ones, back to the first that is taken by then (free value
`writePlace`). `n` counts the writes passed over, `draw` selects the free values. -/
def writesToCome (place draw : Nat) : Nat → List RadiusWrite → List RadiusWrite
  | _, [] => []
  | n, w :: ws => if place < Config.writePlace draw n then w :: writesToCome place draw (n + 1) ws else []

/-- The Envelope Tables at a place of the delivery that bins a revolution: place 0 is its forced close, if it makes one, and place
k + 1 the sample at index k. A write of a radius that shares its microsecond with the REV_END, in front of it on the queue, may be
taken before the delivery or at any of these places (R113; DESIGN CHOICE, log entry 26). -/
def tablesAt (s : State) (place : Nat) : EnvelopeTables :=
  beforeWrites (writesToCome place s.freeCount 0 s.slb.radiusWrites) s.env

/-- The writes of the moment have all been taken when a binning is complete, in time for the close test that follows it (R102). -/
def settleWrites (s : State) : State :=
  if s.slb.radiusWrites.isEmpty then s else useFree { s with slb := { s.slb with radiusWrites := [] } }

/-- R83: the rearmost open slice closes FORCED in a delivery, against the radii of that place. -/
def closeForced (s : State) : State := { closeRearmost .forced { s with env := tablesAt s 0 } with env := s.env }

/-! ## Run state (section 5.3) -/

/-- A change of run state raises RUN_STATE (R98) and causes an evaluation (R156). -/
def setRun (r : RunState) (s : State) : State :=
  if s.slb.run = r then s
  else evaluateAdvice (raiseAll .runState { s with slb := { s.slb with run := r } })

/-- The queue holds no slice. -/
def queueEmpty (s : State) : Bool := s.slb.openSlices.isEmpty && s.slb.pendingSlices.isEmpty

/-- DRAINING, or IDLE when the queue is empty (R75, R80). -/
def endRun (s : State) : State := setRun (if queueEmpty s then .idle else .draining) s

/-! ## Segments (section 5.4) -/

/-- The moment of a stale mark after a break: the present one where the break sets the mark, else as it was. -/
def markMoment (marked opened : Bool) (old now : Time) : Time := if !marked && opened then now else old

/-- Both heads that have a revolution open have their stale mark set (R79). -/
def markStale (s : State) : State :=
  let b := s.slb
  { s with slb := { b with
      stale1 := b.stale1 || s.head1.openRev.isSome, stale2 := b.stale2 || s.head2.openRev.isSome,
      staleTime1 := markMoment b.stale1 s.head1.openRev.isSome b.staleTime1 s.timebase,
      staleTime2 := markMoment b.stale2 s.head2.openRev.isSome b.staleTime2 s.timebase } }

/-- R79, R80: a segment break, in RUNNING only. -/
def segmentBreak (s : State) : State :=
  if s.slb.run = .running then
    let a := flush s
    let last : Bool := decide (a.slb.segment = 65535)
    let b := markStale { a with slb := { a.slb with
      segment := if last then a.slb.segment else a.slb.segment + 1, lastOpened := none, lastClosed := none,
      carriedSkipped := 0, direction := a.chu.direction } }
    let c := raiseAll .segmentBreak b
    if last then endRun c else c
  else s

/-- A direction change reported at a window end (R78, R79): a first determination sets an UNDETERMINED segment direction, a
change between the two directions breaks the segment. -/
def reportDirection (d : Direction) (s : State) : State :=
  if s.slb.run = .running then
    match s.slb.direction with
    | none => { s with slb := { s.slb with direction := some d } }
    | some e => if e = d then s else segmentBreak s
  else s

/-! ## Opening and filling (sections 5.5 and 5.6) -/

/-- The lower of two qualities (R90). -/
def lowerQuality (a b : Quality) : Quality := if qualityCode b < qualityCode a then b else a

/-- R90: a change of quality is taken into every open slice. -/
def lowerOpenSlices (q : Quality) (s : State) : State :=
  { s with slb := { s.slb with openSlices := s.slb.openSlices.map fun x =>
      { x with header := { x.header with lowest := lowerQuality x.header.lowest q } } } }

/-- R91: every open slice takes CORRECTED. -/
def markCorrected (s : State) : State :=
  { s with slb := { s.slb with openSlices := s.slb.openSlices.map fun x =>
      { x with header := { x.header with flags := { x.header.flags with corrected := true } } } } }

/-- R87: the bins passed over when slice i opens. -/
def skippedBins (d : Direction) (lastOpened : Option Nat) (i : Nat) : Nat :=
  match lastOpened with
  | none => 0
  | some k => if aheadOf d i k then (max i k - min i k) - 1 else 0

/-- R87: the foremost index opened, with slice i. -/
def foremostOpened (d : Direction) (lastOpened : Option Nat) (i : Nat) : Nat :=
  match lastOpened with
  | none => i
  | some k => if aheadOf d i k then i else k

/-- A slice takes its place in the open part, rearmost first (R86). -/
def insertOpen (d : Direction) (x : OpenSlice) : List OpenSlice → List OpenSlice
  | [] => [x]
  | y :: ys => if aheadOf d x.header.index y.header.index then y :: insertOpen d x ys else x :: y :: ys

/-- The flags of a slice at its opening: OVERRUN when the carried overrun count is above 0 (R86). -/
def openFlags (overruns : Nat) : SliceFlags :=
  { forced := false, flushed := false, corrected := false, overrun := decide (0 < overruns), thin := false, cantHeld := false,
    cantClamped := false, provisional := false }

/-- The slice that opens at index i along d (R86, R87, R101, R128). -/
def newSlice (s : State) (d : Direction) (i : Nat) : OpenSlice :=
  { header := { index := i, run := s.slb.runNumber, segment := s.slb.segment, direction := d, openTime := s.timebase,
                zone := lookupZone s (i * s.setup.sliceLength), lowest := s.chu.quality,
                skipped := addSat Config.sat16 s.slb.carriedSkipped (skippedBins d s.slb.lastOpened i),
                overruns := s.slb.carriedOverruns, flags := openFlags s.slb.carriedOverruns, part1 := none, part2 := none },
    sectors := freshSectors, editMark := s.locks.envelope.isSome }

/-- R86: slice i opens. -/
def openSlice (d : Direction) (i : Nat) (s : State) : State :=
  { s with slb := { s.slb with
      openSlices := insertOpen d (newSlice s d i) s.slb.openSlices,
      lastOpened := some (foremostOpened d s.slb.lastOpened i), carriedSkipped := 0, carriedOverruns := 0 } }

/-- A revolution as it is delivered (R18). -/
structure Delivery where
  head : HeadId
  number : BitVec 16
  rate : Rate
  headChainage : Nat
  cant : Int
  cantInvalid : Bool
  cantClamped : Bool
  samples : List Sample
  deriving DecidableEq, Repr

/-- The lower of two rates, QUARTER below HALF below FULL (R89); the codes of Table 11-1 fall as the rate rises. -/
def lowerRate (a b : Rate) : Rate := if rateCode a < rateCode b then b else a

/-- R88, R89: a head part takes a revolution; an absent one is made present first. -/
def takeRevolution (v : Delivery) (valid discarded : Nat) (q : Option HeadPart) : HeadPart :=
  let old := q.getD { revolutions := 0, valid := 0, discarded := 0, lowestRate := v.rate, cantSum := 0 }
  { revolutions := old.revolutions + 1, valid := old.valid + valid, discarded := old.discarded + discarded,
    lowestRate := lowerRate old.lowestRate v.rate, cantSum := old.cantSum + v.cant }

/-- R88 for one slice: the samples of a delivery are binned, the sample at index k against the Envelope Tables `e k`. -/
def binInto (u : Setup) (e : Nat → EnvelopeTables) (v : Delivery) (x : OpenSlice) : OpenSlice × BinResult :=
  let r := binSamples e x.header.zone.profile (sampleSetup u v.head v.rate v.cant) 0 v.samples ⟨x.sectors, 0, 0⟩
  let flags := { x.header.flags with
    cantHeld := x.header.flags.cantHeld || v.cantInvalid, cantClamped := x.header.flags.cantClamped || v.cantClamped }
  let header :=
    match v.head with
    | .h1 => { x.header with flags := flags, part1 := some (takeRevolution v r.valid r.discarded x.header.part1) }
    | .h2 => { x.header with flags := flags, part2 := some (takeRevolution v r.valid r.discarded x.header.part2) }
  ({ x with header := header, sectors := r.sectors }, r)

/-- Binning into the open slice of index i (R88), with the discarded samples counted for the head (R111); none when no such
slice is open. -/
def binAt (u : Setup) (e : Nat → EnvelopeTables) (v : Delivery) (i : Nat) : List OpenSlice → List OpenSlice × Nat
  | [] => ([], 0)
  | x :: xs =>
    if x.header.index = i then ((binInto u e v x).1 :: xs, (binInto u e v x).2.discarded)
    else (x :: (binAt u e v i xs).1, (binAt u e v i xs).2)

/-- R88, R102: the revolution is binned into slice i, each sample against the radii as they stand at its own binning (R113), and the
close test follows. -/
def binRevolution (v : Delivery) (i : Nat) (s : State) : State :=
  let r := binAt s.setup (fun k => tablesAt s (k + 1)) v i s.slb.openSlices
  closeTest (countEvents v.head .discardedSamples r.2 (settleWrites { s with slb := { s.slb with openSlices := r.1 } }))

/-- R84: an overrun discard. -/
def overrunDiscard (s : State) : State :=
  let t := { s with slb := { s.slb with carriedOverruns := addSat Config.sat16 s.slb.carriedOverruns 1 } }
  if s.slb.carriedOverruns = 0 then raiseAll .overrun t else t

/-- The slice of index i is open. -/
def isOpen (i : Nat) (s : State) : Bool := s.slb.openSlices.any fun x => decide (x.header.index = i)

/-- The index lies at or behind the last closed index (R83, case 2). -/
def behindClosed (d : Direction) (i : Nat) (s : State) : Bool :=
  match s.slb.lastClosed with
  | none => false
  | some k => !aheadOf d i k

/-- The index lies behind the rearmost open slice (R83, case 4). -/
def behindRearmost (d : Direction) (i : Nat) (s : State) : Bool :=
  match s.slb.openSlices with
  | [] => false
  | x :: _ => aheadOf d x.header.index i

/-- R83: the first case that holds. -/
def chooseSlice (v : Delivery) (d : Direction) (s : State) : State :=
  let i := v.headChainage / s.setup.sliceLength
  if isOpen i s then binRevolution v i s
  else if behindClosed d i s then countEvents v.head .late 1 s
  else if Config.queueCapacity ≤ s.slb.openSlices.length + s.slb.pendingSlices.length then overrunDiscard s
  else if s.slb.openSlices.length = Config.openCapacity then
    if behindRearmost d i s then countEvents v.head .late 1 s
    else binRevolution v i (openSlice d i (closeForced s))
  else binRevolution v i (openSlice d i s)

/-- A stale revolution is discarded as LATE and its mark is cleared (R81). -/
def discardStale (h : HeadId) (s : State) : State := setStale (countEvents h .late 1 s) h false

/-- R81: what becomes of a delivered revolution. In RUNNING a stale one is LATE, whatever the direction and the quality (R99, log
entry 4). -/
def deliver (v : Delivery) (s : State) : State :=
  if s.slb.run = .running then
    if staleMark s v.head then discardStale v.head s
    else
      match s.slb.direction with
      | none => s
      | some d => if s.chu.quality = .lost then s else chooseSlice v d s
  else s

/-! ## Loss and return of LOCKED heads (R94) -/

/-- The set of LOCKED heads has changed: the Advice Unit evaluates (R156), and in RUNNING the open slices are flushed when no
head is LOCKED any more, and the close test is made otherwise (R92, R94). -/
def lockedHeadChange (s : State) : State :=
  let t := evaluateAdvice s
  if t.slb.run = .running then (if anyLocked t then closeTest t else flush t) else t

end Sys2Proof.Machine
end

