-- ==== Sys2Proof/Machine/Store.lean ====
section
/-! DEFINITION. The Profile Store (chapter 8): the record image (Table 11-6), the commit (R137 to R140), the placing of sequence
numbers (R136) and what a granted port request does (R142 to R145, R148). -/

namespace Sys2Proof.Machine

/-! ## The record image (R97, R120, R185, Table 11-6) -/

/-- Bit n of a word, as a number. -/
def flagBit (n : Nat) (b : Bool) : Nat := if b then 2 ^ n else 0

/-- Direction and flags, bytes 18 and 19. -/
def flagWord (d : Direction) (f : SliceFlags) : Nat :=
  flagBit 0 f.forced + flagBit 1 f.flushed + flagBit 2 f.corrected + flagBit 3 f.overrun + flagBit 4 f.thin +
    flagBit 5 f.cantHeld + flagBit 6 f.cantClamped + flagBit 7 f.provisional + flagBit 15 (decide (d = .decreasing))

/-- The mean cant of a head part (R89). -/
def meanCant (q : HeadPart) : Int := roundDiv q.cantSum q.revolutions

/-- A head part in 16 bytes; an absent one is 16 zero bytes (R185). -/
def headPartBytes : Option HeadPart → List Byte
  | none => List.replicate 16 0
  | some q =>
    bytesOf 2 (min Config.sat16 q.revolutions : Nat) ++ bytesOf 2 (min Config.sat16 q.valid : Nat) ++
      bytesOf 2 (min Config.sat16 q.discarded : Nat) ++ bytesOf 1 (rateCode q.lowestRate) ++ bytesOf 2 (meanCant q) ++
      List.replicate 7 0

/-- A sector in 6 bytes. -/
def sectorBytes (r : SectorResult) : List Byte :=
  bytesOf 1 (sectorStateCode r.state) ++ bytesOf 1 r.hits ++ bytesOf 1 r.intrusions ++ [0] ++ bytesOf 2 r.clearance

/-- The 480-byte record of a slice under a sequence number, L being SLICE_LENGTH (Table 11-6). -/
def recordImage (l : Nat) (seq : SeqNo) (x : PendingSlice) : RecordImage :=
  let h := x.header
  bytesOf 4 seq.toNat ++ bytesOf 2 h.run.toNat ++ bytesOf 2 h.segment.toNat ++ bytesOf 4 h.index ++
    bytesOf 4 (h.index * l : Nat) ++ bytesOf 2 l ++ bytesOf 2 (flagWord h.direction h.flags) ++
    bytesOf 1 (sectorStateCode x.cls) ++ bytesOf 1 (x.worstSector.getD 255 : Nat) ++ bytesOf 2 x.worstClearance ++
    bytesOf 1 h.zone.index ++ bytesOf 1 h.zone.profile ++ bytesOf 2 h.zone.margin ++ bytesOf 1 h.zone.confirm ++
    bytesOf 1 (qualityCode h.lowest) ++ bytesOf 2 h.skipped ++ bytesOf 2 h.overruns ++ bytesOf 6 h.openTime.toNat ++
    bytesOf 6 x.closeTime.toNat ++ bytesOf 1 (flagBit 0 h.part1.isSome + flagBit 1 h.part2.isSome : Nat) ++
    List.replicate 17 0 ++ headPartBytes h.part1 ++ headPartBytes h.part2 ++ (x.sectors.toList.map sectorBytes).flatten

/-! ## Commit (section 8.3) -/

/-- R138 for one cursor: a cursor at the evicted record moves to the new oldest and counts a miss. The retention test allowed
the eviction, so every cursor there was in FOLLOW at the grant (log entry 9). -/
def carryCursor (evicted : SeqNo) (c : Cursor) : Cursor :=
  if c.position = evicted then { c with position := evicted + 1, missed := addSat Config.sat16 c.missed 1 } else c

/-- R138: the latches of the ports whose cursor stood at the evicted record. -/
def raiseMissed (evicted : SeqNo) (s : State) : State :=
  s.mapPorts fun p m =>
    if (s.pst.cursor p).position = evicted then { m with latch := latched .recordsMissed m.latch } else m

/-- R138: the oldest record is evicted. -/
def evictOldest (s : State) : State :=
  let old := oldestSeq s.pst
  let t := raiseMissed old s
  { t with pst := { t.pst with records := t.pst.records.tail, cursor0 := carryCursor old t.pst.cursor0,
                               cursor1 := carryCursor old t.pst.cursor1, cursor2 := carryCursor old t.pst.cursor2 } }

/-- R140: DATA_AVAILABLE in the latch of each port whose cursor stands at the number the commit gives its record. -/
def raiseData (number : SeqNo) (s : State) : State :=
  s.mapPorts fun p m =>
    if (s.pst.cursor p).position = number then { m with latch := latched .dataAvailable m.latch } else m

/-- R140: the event of a record's class. -/
def raiseClass (cls : SectorState) (s : State) : State :=
  match cls with
  | .infringe => raiseAll .recordInfringe s
  | .warn => raiseAll .recordWarn s
  | .suspect => raiseAll .recordWarn s
  | _ => s

/-- The record is stored under the next sequence number and its slice leaves the queue (R135, R137). -/
def storeRecord (x : PendingSlice) (rest : List PendingSlice) (s : State) : State :=
  { s with pst := { s.pst with records := s.pst.records ++ [recordImage s.setup.sliceLength s.pst.nextSeq x],
                               nextSeq := s.pst.nextSeq + 1 },
           slb := { s.slb with pendingSlices := rest } }

/-- R140: STORE_HIGH_REACHED when the commit has raised the fill from STORE_HIGH − 1 to STORE_HIGH; `before` is the fill before
it, which an eviction commit leaves as it is. -/
def raiseHigh (before : Nat) (s : State) : State :=
  if before + 1 = fill s.pst ∧ fill s.pst = s.setup.storeHigh then raiseAll .storeHighReached s else s

/-- The commit path releases the store (R137, R149) and asks again for the next pending slice, if there is one. A port that waits is
granted the store at the release, so the commit path then waits behind it. -/
def releaseByCommit (s : State) : State :=
  let t := endCommitHold s
  if t.slb.pendingSlices.isEmpty then t else askCommit t

/-- R76: the last pending slice of a DRAINING run has left the queue. -/
def drainEnd (s : State) : State := if s.slb.run = .draining ∧ queueEmpty s = true then setRun .idle s else s

/-- R137, R138, R140: the oldest pending slice is committed. -/
def makeCommit (x : PendingSlice) (rest : List PendingSlice) (s : State) : State :=
  let before := fill s.pst
  let number := s.pst.nextSeq
  let a := if before = Config.storeCapacity then evictOldest s else s
  let b := raiseHigh before (raiseClass x.cls (storeRecord x rest (raiseData number a)))
  releaseByCommit (drainEnd (evaluateAdvice b))

/-- R139: the commit is refused by retention; a retry event kept during the hold makes the commit path ask again at once. -/
def refuseCommit (s : State) : State :=
  let kept := s.pst.retryKept
  let t := endCommitHold s
  if kept then askCommit t else { t with pst := { t.pst with commitBlocked := true } }

/-- The hold of the commit path completes (R137, R150). It cannot complete while the commit path does not hold the store. -/
def completeCommit (s : State) : State :=
  if s.pst.holder = .commitPath then
    match s.slb.pendingSlices with
    | [] => s
    | x :: rest => if s.pst.testRefused then refuseCommit s else makeCommit x rest s
  else s

/-! ## Port requests (sections 8.4 and 8.5) -/

/-- Where a sequence number stands against the store (R136). -/
inductive Place where
  | held (offset : Nat)
  | newestPlusOne
  | above
  | below
  deriving DecidableEq, Repr

/-- R136. -/
def placeOf (t : ProfileStore) (n : SeqNo) : Place :=
  if seqOffset t n < fill t then .held (seqOffset t n)
  else if seqOffset t n = fill t then .newestPlusOne
  else if (n - t.nextSeq).toNat < 2 ^ 31 then .above
  else .below

/-- What a request answers: its status and payload. -/
structure Reply where
  status : Status
  payload : List Byte
  deriving DecidableEq, Repr

/-- A status without payload (R186). -/
def bare (st : Status) : Reply := { status := st, payload := [] }

/-- The answer is placed in the slot, which becomes ANSWER_READY (R170). -/
def putAnswer (p : PortId) (echo : Byte) (r : Reply) (s : State) : State :=
  setSlot p (.ready { status := r.status, echo := echo, payload := r.payload }) s

/-- The cursor of a port moves, which is a retry event (R139). -/
def moveCursor (p : PortId) (n : SeqNo) (s : State) : State :=
  retryEvent (setCursorOf p { s.pst.cursor p with position := n } s)

/-- Up to n records from the cursor of a port on, in ascending order (R143). -/
def recordsAt (p : PortId) (n : Nat) (s : State) : List RecordImage :=
  (s.pst.records.drop (seqOffset s.pst (s.pst.cursor p).position)).take n

/-- R142. -/
def serveReadNext (p : PortId) (s : State) : State × Reply :=
  match recordsAt p 1 s with
  | [] => (s, bare .empty)
  | x :: _ => (moveCursor p ((s.pst.cursor p).position + 1) s, { status := .ok, payload := x })

/-- R143. -/
def serveReadBlock (p : PortId) (count : Nat) (s : State) : State × Reply :=
  match recordsAt p count s with
  | [] => (s, bare .empty)
  | xs => (moveCursor p ((s.pst.cursor p).position + BitVec.ofNat 32 xs.length) s,
      { status := .ok, payload := bytesOf 1 xs.length ++ xs.flatten })

/-- R144. -/
def servePeek (n : SeqNo) (s : State) : State × Reply :=
  match placeOf s.pst n with
  | .held o => (s, { status := .ok, payload := (s.pst.records[o]?).getD [] })
  | .newestPlusOne => (s, bare .notYet)
  | .above => (s, bare .notYet)
  | .below => (s, bare .evicted)

/-- Where SET CURSOR puts a cursor, and its status (R145). -/
def cursorGoal (t : ProfileStore) : CursorTarget → SeqNo × Status
  | .oldest => (oldestSeq t, .ok)
  | .newestPlusOne => (t.nextSeq, .ok)
  | .number n =>
    match placeOf t n with
    | .held _ => (n, .ok)
    | .newestPlusOne => (n, .ok)
    | .above => (t.nextSeq, .clamped)
    | .below => (oldestSeq t, .clamped)

/-- R145. -/
def serveSetCursor (p : PortId) (target : CursorTarget) (s : State) : State × Reply :=
  let g := cursorGoal s.pst target
  (moveCursor p g.1 s, { status := g.2, payload := bytesOf 4 g.1.toNat })

/-- R148 for one cursor: what it had not read is missed, and it stands at the next sequence number. -/
def clearCursor (t : ProfileStore) (c : Cursor) : Cursor :=
  { c with position := t.nextSeq, missed := addSat Config.sat16 c.missed (availableTo t c) }

/-- R148. -/
def serveClear (s : State) : State × Reply :=
  let t := s.pst
  let a := s.mapPorts fun p m =>
    if 0 < availableTo t (t.cursor p) then { m with latch := latched .recordsMissed m.latch } else m
  let b := { a with pst := { t with records := [], cursor0 := clearCursor t t.cursor0, cursor1 := clearCursor t t.cursor1,
                                    cursor2 := clearCursor t t.cursor2 } }
  (retryEvent (evaluateAdvice b), bare .ok)

/-- The work of a granted port request (R150). -/
def serveRequest (p : PortId) (q : StoreRequest) (s : State) : State × Reply :=
  match q with
  | .readNext => serveReadNext p s
  | .readBlock count => serveReadBlock p count s
  | .peek n => servePeek n s
  | .setCursor target => serveSetCursor p target s
  | .clear => serveClear s

/-- A port is granted the store, its request is served and answered, and the store is released (R149, R150). -/
def grantAndServe (p : PortId) (q : StoreRequest) (echo : Byte) (s : State) : State :=
  let r := serveRequest p q (grantPort p s)
  releaseByPort (putAnswer p echo r.2 r.1)

/-- A port asks for the store: it is granted at once when the store is free, and waits in its slot otherwise (R149). -/
def askPort (p : PortId) (q : StoreRequest) (echo : Byte) (s : State) : State :=
  if storeFree s then grantAndServe p q echo s else setSlot p (.working q echo) s

/-- R150: the port that a release has granted the store is served, answered and releases it. Any other port, and a holder without a
request, which no run reaches, has no work here. -/
def finishGrant (p : PortId) (s : State) : State :=
  match s.pst.holder, (s.port p).slot with
  | .port h, .working q echo => if h = p then grantAndServe p q echo s else s
  | _, _ => s

/-- STORE_GRANT: the port that was granted the released store, the next one in rotation, is served and answered (R149, R150). -/
def grantWaiting (s : State) : State :=
  match s.pst.holder with
  | .port p => finishGrant p s
  | _ => s

end Sys2Proof.Machine
end

