-- ==== Sys2Proof/Machine/Position.lean ====
section
/-! DEFINITION. Position: the Chainage Unit (chapter 3) and the Marker Unit (chapter 4) with what their changes do to the Slice
Builder: position quality, window ends, encoder transitions, captures and misses. -/

namespace Sys2Proof.Machine

/-! ## The next expected marker (R68) -/

/-- The indices of the marker table in direction order. -/
def markerOrder : Direction → List Nat
  | .increasing => List.range 256
  | .decreasing => (List.range 256).reverse

def markerAt (s : State) (i : Nat) : MarkerEntry := (s.mku.table[i]?).getD MarkerEntry.reset

/-- The chainage lies beyond the marker by more than its window (R69). -/
def markerPassed (d : Direction) (c : Nat) (e : MarkerEntry) : Bool :=
  match d with
  | .increasing => decide (e.surveyed + e.window < c)
  | .decreasing => decide (c + e.window < e.surveyed)

/-- The first enabled entry in direction order that has not been passed by more than its window (R68). -/
def firstNotPassed (s : State) (d : Direction) : Option Nat :=
  (markerOrder d).find? fun i => (markerAt s i).enabled && !markerPassed d (chainageMm s) (markerAt s i)

/-- The first enabled entry after index m in direction order (R65). -/
def markerAfter (s : State) (d : Direction) (m : Nat) : Option Nat :=
  (markerOrder d).find? fun i => aheadOf d i m && (markerAt s i).enabled

def setNext (n : Option Nat) (s : State) : State := { s with mku := { s.mku with nextExpected := n } }

/-- R68: the next expected marker is recomputed; NONE unless matching is ACTIVE, the quality not LOST and the direction
determined. -/
def recomputeNext (s : State) : State :=
  match matchingState s, s.chu.quality, s.chu.direction with
  | .active, .degraded, some d => setNext (firstNotPassed s d) s
  | .active, .deadReckoned, some d => setNext (firstNotPassed s d) s
  | .active, .surveyed, some d => setNext (firstNotPassed s d) s
  | _, _, _ => setNext none s

/-! ## Position quality (section 3.7) -/

/-- R49, R90: the quality is set, its event raised, and every open slice told. -/
def noteQuality (q : Quality) (s : State) : State :=
  lowerOpenSlices q (raiseAll .qualityChange { s with chu := { s.chu with quality := q } })

/-- R68: the next expected marker at a change of quality from `old` to `q`. -/
def nextAtQuality (q old : Quality) (s : State) : State :=
  if q = .lost then setNext none s else if old = .lost then recomputeNext s else s

/-- R49: a change of quality, told to the open slices (R90) and the Marker Unit (R68), with an evaluation (R156), and a segment
break when the change is to LOST (R79). -/
def changeQuality (q : Quality) (s : State) : State :=
  if s.chu.quality = q then s
  else
    let t := evaluateAdvice (nextAtQuality q s.chu.quality (noteQuality q s))
    if q = .lost then segmentBreak t else t

/-- R50: DEGRADED from SURVEYED or DEAD_RECKONED only. -/
def degrade (s : State) : State :=
  match s.chu.quality with
  | .surveyed => changeQuality .degraded s
  | .deadReckoned => changeQuality .degraded s
  | _ => s

/-! ## Encoder counting (section 3.2) -/

/-- How a change of a phase pair counts (Table 3-2). -/
inductive Count where
  | plus
  | minus
  | illegal
  | none
  deriving DecidableEq, Repr

/-- The pair that follows in the forward cycle of Table 3-2. -/
def nextPhase (x : Phase) : Phase := { a := x.b, b := !x.a }

/-- R37, Table 3-2: a pair that stays the same is no transition. -/
def countOf (old new : Phase) : Count :=
  if new = old then .none
  else if new = nextPhase old then .plus
  else if old = nextPhase new then .minus
  else .illegal

/-- The two encoder healths. -/
def isFailed (e : Encoder) : Bool := decide (e.health = .failed)

/-- R42, R44, R53: slip travel, WL and WR are cleared. -/
def clearSlip (s : State) : State := { s with chu := { s.chu with slipTravel := 0, slipLeft := 0, slipRight := 0 } }

/-- R38, R44, R50, R51: an encoder becomes FAILED. -/
def failEncoder (side : Side) (s : State) : State :=
  let t := { s with chu := s.chu.setEncoder side { s.chu.encoder side with health := .failed } }
  if isFailed (s.chu.encoder (otherSide side)) then changeQuality .lost t
  else
    let u := if t.chu.slip then clearSlip { t with chu := { t.chu with slip := false } } else t
    degrade u

/-- R37, R38: a phase change. -/
def takeTransition (side : Side) (phase : Phase) (s : State) : State :=
  let e := s.chu.encoder side
  match countOf e.phase phase with
  | .none => s
  | .plus => { s with chu := s.chu.setEncoder side { e with phase := phase, delta := e.delta + 1 } }
  | .minus => { s with chu := s.chu.setEncoder side { e with phase := phase, delta := e.delta - 1 } }
  | .illegal =>
    let t := { s with chu := s.chu.setEncoder side { e with phase := phase, illegal := addSat 8 e.illegal 1 } }
    if e.health = .healthy ∧ 8 ≤ e.illegal + 1 then failEncoder side t else t

/-! ## Fusion (section 3.3) -/

/-- The common divisor D = 2 × ENC_K (R40). -/
def fusionDivisor (s : State) : Int := 2 * s.setup.encK

/-- The delta of smaller magnitude, LEFT when the magnitudes are equal (R40). -/
def smallerDelta (l r : Int) : Int := if r.natAbs < l.natAbs then r else l

/-- The signed numerator of the mode in force, none when both encoders are FAILED (R40). -/
def fusionNumerator (s : State) : Option Int :=
  let o := orientationSign s.setup
  let c := s.chu
  match c.left.health, c.right.health with
  | .healthy, .healthy =>
    if c.slip then some (2 * smallerDelta c.left.delta c.right.delta * 1000000 * o + c.remainder)
    else some ((c.left.delta + c.right.delta) * 1000000 * o + c.remainder)
  | .healthy, .failed => some (2 * c.left.delta * 1000000 * o + c.remainder)
  | .failed, .healthy => some (2 * c.right.delta * 1000000 * o + c.remainder)
  | .failed, .failed => none

/-- The fused distance d in µm: truncated toward zero, 0 in the None mode (R40). -/
def fusedDistance (s : State) : Int := ((fusionNumerator s).map fun n => n.tdiv (fusionDivisor s)).getD 0

/-- The remainder the fusion leaves: n − d × D, 0 in the None mode (R40). -/
def fusedRemainder (s : State) : Int :=
  ((fusionNumerator s).map fun n => n - n.tdiv (fusionDivisor s) * fusionDivisor s).getD 0

/-- The chainage sum of the window before any clamp (R41). -/
def chainageSum (s : State) : Int := s.chu.chainage + fusedDistance s

/-- The sum leaves the range (R41). -/
def sumClamps (s : State) : Bool := decide (chainageSum s < 0) || decide ((Config.maxUm : Int) < chainageSum s)

/-- R40, R41: chainage and remainder after the window, before any change of quality. -/
def fuseChainage (s : State) : State :=
  { s with chu := { s.chu with chainage := (clampInt 0 Config.maxUm (chainageSum s)).toNat,
                               remainder := if sumClamps s then 0 else fusedRemainder s } }

/-! ## Misses (section 4.5) -/

/-- R69, R70: one miss of the marker at index m. -/
def countMiss (d : Direction) (m : Nat) (s : State) : State :=
  let raised : Bool := decide (s.mku.missCount < 7)
  let a := raiseAll .markerMiss { s with mku := { s.mku with missCount := addSat 7 s.mku.missCount 1,
                                                             nextExpected := markerAfter s d m } }
  if raised && decide (a.mku.missCount = s.setup.missLimit) then degrade a else a

/-- R69: the comparison, repeated against each new next expected marker. -/
def missCheckFrom : Nat → State → State
  | 0, s => s
  | n + 1, s =>
    match s.mku.nextExpected, s.chu.direction with
    | some m, some d => if markerPassed d (chainageMm s) (markerAt s m) then missCheckFrom n (countMiss d m s) else s
    | _, _ => s

def missCheck (s : State) : State := missCheckFrom 256 s

/-- R41, R69: a clamped sum makes the quality LOST; whether the miss comparison or the change is taken first is open: free value
`missBeforeLost` (log entry 3), used only where the order matters. -/
def clampAndMiss (s : State) : State :=
  if s.mku.nextExpected = none ∨ s.chu.quality = .lost then missCheck (changeQuality .lost s)
  else if Config.missBeforeLost s.freeCount then changeQuality .lost (missCheck (useFree s))
  else missCheck (changeQuality .lost (useFree s))

/-! ## Window end (R39) -/

/-- Step 1 with the miss comparison, which uses the direction in force before this window end changes it (R69, R72). -/
def windowFusion (s : State) : State :=
  if sumClamps s then clampAndMiss (fuseChainage s) else missCheck (fuseChainage s)

/-- Step 2 (R45). -/
def windowSpeed (d : Int) (s : State) : State :=
  let v := s.chu.speedHistory
  { s with chu := { s.chu with speedHistory := #v[v[1], v[2], v[3], d.natAbs] } }

/-- The direction d points to, for d not 0. -/
def signDirection (d : Int) : Direction := if 0 < d then .increasing else .decreasing

/-- R46: the motion direction becomes e, both accumulators are cleared, and the change is reported to the Marker Unit (R68) and
the Slice Builder (R78). -/
def setDirection (e : Direction) (s : State) : State :=
  reportDirection e (recomputeNext { s with chu := { s.chu with direction := some e, reversal := 0, determination := 0 } })

/-- Step 3 (R46). -/
def windowDirection (d : Int) (s : State) : State :=
  match s.chu.direction with
  | none =>
    let acc := s.chu.determination + d
    if Config.directionUm ≤ acc.natAbs then setDirection (signDirection acc) s
    else { s with chu := { s.chu with determination := acc } }
  | some e =>
    if d = 0 then s
    else if signDirection d = e then { s with chu := { s.chu with reversal := 0 } }
    else if Config.directionUm ≤ s.chu.reversal + d.natAbs then setDirection (signDirection d) s
    else { s with chu := { s.chu with reversal := s.chu.reversal + d.natAbs } }

/-- The largest travel since survey: 999,999,999 mm (R48). -/
def travelLimit : Nat := Config.maxMm * 1000

/-- Slip is found: |WL − WR| × 2000 > SLIP_TOL × (WL + WR), exactly (R42). -/
def slipFound (tol wl wr : Nat) : Bool := decide (tol * (wl + wr) < ((wl : Int) - wr).natAbs * 2000)

/-- R42, R43: the slip check declares slip or ends it, and clears the stretch. -/
def slipCheck (s : State) : State :=
  let found := slipFound s.setup.slipTol s.chu.slipLeft s.chu.slipRight
  let t := clearSlip { s with chu := { s.chu with slip := found } }
  if found then degrade t else t

/-- Step 4 (R42, R48). -/
def windowTravel (d : Int) (s : State) : State :=
  let a := { s with chu := { s.chu with travel := addSat travelLimit s.chu.travel d.natAbs } }
  if isFailed s.chu.left || isFailed s.chu.right then clearSlip a
  else
    let b := { a with chu := { a.chu with slipTravel := a.chu.slipTravel + d.natAbs,
                                          slipLeft := a.chu.slipLeft + a.chu.left.delta.natAbs,
                                          slipRight := a.chu.slipRight + a.chu.right.delta.natAbs } }
    if Config.slipTravelUm ≤ b.chu.slipTravel then slipCheck b else b

/-- Step 5 (R48). -/
def windowHold (s : State) : State :=
  if s.chu.quality = .surveyed ∧ s.setup.surveyHold * 1000000 ≤ s.chu.travel then changeQuality .deadReckoned s else s

/-- Step 6 (R39). -/
def windowClear (s : State) : State :=
  { s with chu := { s.chu with left := { s.chu.left with delta := 0, illegal := 0 },
                               right := { s.chu.right with delta := 0, illegal := 0 } } }

/-- R39, with the close test of R92 behind it. -/
def takeWindowEnd (s : State) : State :=
  let d := fusedDistance s
  closeTest (windowClear (windowHold (windowTravel d (windowDirection d (windowSpeed d (windowFusion s))))))

/-! ## SET CHAINAGE (R53) -/

/-- What SET CHAINAGE sets in the Chainage Unit before the quality changes (R53). -/
def placeChainage (mm : Nat) (s : State) : State :=
  { s with
    chu := { s.chu with
      chainage := mm * 1000, remainder := 0, left := { s.chu.left with health := .healthy, illegal := 0 },
      right := { s.chu.right with health := .healthy, illegal := 0 }, slip := false, slipTravel := 0, slipLeft := 0,
      slipRight := 0, direction := none, reversal := 0, determination := 0, travel := 0 },
    mku := { s.mku with missCount := 0 } }

/-- R53: the chainage is set; the quality change comes before the segment break (log entry 10). -/
def setChainageTo (mm : Nat) (s : State) : State :=
  segmentBreak (recomputeNext (changeQuality .deadReckoned (placeChainage mm s)))

/-! ## Capture (section 4.4) -/

/-- |S − C| (R64). -/
def distanceMm (a b : Nat) : Nat := max a b - min a b

/-- The nearest enabled entry from index i on, with its index, against the best found before: of equal distances the lower
index (R64). -/
def nearestFrom (c : Nat) : Nat → List MarkerEntry → Option (Nat × MarkerEntry) → Option (Nat × MarkerEntry)
  | _, [], best => best
  | i, e :: es, best =>
    nearestFrom c (i + 1) es <|
      if e.enabled then
        match best with
        | none => some (i, e)
        | some (j, b) => if distanceMm e.surveyed c < distanceMm b.surveyed c then some (i, e) else some (j, b)
      else best

/-- R64: the marker an edge at chainage c matches: the nearest, if c lies within its window. -/
def matchedMarker (s : State) (c : Nat) : Option (Nat × MarkerEntry) :=
  match nearestFrom c 0 s.mku.table.toList none with
  | none => none
  | some (i, e) => if distanceMm e.surveyed c ≤ e.window then some (i, e) else none

/-- R67: the capture record becomes the newest of the log. -/
def logCapture (r : Capture) (s : State) : State :=
  raiseAll .markerCapture { s with mku := { s.mku with log := (r :: s.mku.log).take 16, captureTotal := s.mku.captureTotal + 1 } }

/-- R52: the Chainage Unit takes a snap. -/
def takeSnap (mm : Nat) (s : State) : State :=
  changeQuality .surveyed { s with chu := { s.chu with chainage := mm * 1000, remainder := 0, travel := 0 } }

/-- R65, R66: a match clears the miss count and expects the marker after it. -/
def afterMatch (m : Nat) (s : State) : State :=
  { s with mku := { s.mku with missCount := 0, nextExpected := s.chu.direction.bind fun d => markerAfter s d m } }

/-- R65: a RING marker is applied, small or large. -/
def applyRing (m : Nat) (e : MarkerEntry) (jump : Bool) (s : State) : State :=
  let t := afterMatch m (takeSnap e.surveyed s)
  if jump then segmentBreak t else closeTest (markCorrected t)

/-- R63 to R66: a taken edge makes one capture. -/
def takeCapture (s : State) : State :=
  let c := chainageMm s
  let rec0 (m : Option Nat) (delta : Int) (r : CaptureResult) : Capture :=
    { time := s.timebase, chainageBefore := c, marker := m, correction := delta, result := r }
  match matchingState s with
  | .edit => logCapture (rec0 none 0 .ignoredEdit) s
  | .suspended => logCapture (rec0 none 0 .ignoredSuspended) s
  | .active =>
    if s.chu.quality = .lost then logCapture (rec0 none 0 .ignoredLost) s
    else
      match matchedMarker s c with
      | none => logCapture (rec0 none 0 .unexpected) s
      | some (m, e) =>
        match e.kind with
        | .check => logCapture (rec0 (some m) 0 .checked) (afterMatch m s)
        | .ring =>
          let delta : Int := (e.surveyed : Int) - c
          let jump : Bool := decide (s.setup.sliceLength / 2 < delta.natAbs)
          logCapture (rec0 (some m) delta (if jump then .appliedJump else .applied)) (applyRing m e jump s)

/-- R62: the edge arrives less than 5 ms after the last taken edge. -/
def edgeSuppressed (s : State) : Bool :=
  match s.mku.lastEdge with
  | none => false
  | some t => decide ((s.timebase - t).toNat < Config.edgeGuardUs)

/-- R62: a falling edge on MARK. -/
def takeEdge (s : State) : State :=
  if edgeSuppressed s then { s with mku := { s.mku with suppressed := addSat Config.sat16 s.mku.suppressed 1 } }
  else takeCapture { s with mku := { s.mku with lastEdge := some s.timebase } }

/-! ## Validation of the marker table (R60) -/

/-- The first enabled entry from index i on whose surveyed chainage is not greater than that of the enabled entry before it. -/
def firstDisorder : Nat → Option Nat → List MarkerEntry → Option Nat
  | _, _, [] => none
  | i, before, e :: es =>
    if e.enabled then
      match before with
      | none => firstDisorder (i + 1) (some e.surveyed) es
      | some b => if e.surveyed ≤ b then some i else firstDisorder (i + 1) (some e.surveyed) es
    else firstDisorder (i + 1) before es

/-- The first failing entry of the marker table, none when it is valid (R60). -/
def markerTableFault (m : MarkerUnit) : Option Nat := firstDisorder 0 none m.table.toList

/-- R61, R73: an invalid table sets the suspension flag. -/
def suspendMarkers (s : State) : State :=
  if (markerTableFault s.mku).isSome then { s with mku := { s.mku with suspended := true } } else s

end Sys2Proof.Machine
end

