-- ==== Sys2Proof/Machine/Head.lean ====
section
/-! DEFINITION. The Head Receivers (chapter 1): the head state machine, training with downspeed, revolution acceptance, and the
meanings of the head link frames, the head timers and the head requests' shared work. -/

namespace Sys2Proof.Machine

/-! ## Entering a state (R6) -/

/-- The timers of a head on entry to a state: the state's own timer starts, all others stop (R6, Table 1-9). -/
def withTimers (dest : HeadState) (r : HeadReceiver) : HeadReceiver :=
  { r with
    settleTimer := if dest = .powering then some Config.settleUs else none,
    attemptTimer := if dest = .training then some Config.attemptUs else none,
    watchdog := if dest = .acquiring ∨ dest = .locked then some Config.watchdogUs else none }

/-- The head enters a state with its timers (R6, R12); HEAD_STATE is raised on a change of state, and the Slice Builder and the
Advice Unit are told of an entry to or exit from LOCKED (R94, R156). -/
def enterState (h : HeadId) (dest : HeadState) (s : State) : State :=
  let r := s.head h
  let a := s.setHead h { withTimers dest r with state := dest }
  let b := if r.state = dest then a else raiseAll .headState a
  if decide (r.state = .locked) = decide (dest = .locked) then b else lockedHeadChange b

/-- The open revolution is discarded without a count (R19). -/
def dropRevolution (h : HeadId) (s : State) : State := s.setHead h { s.head h with openRev := none }

/-- R8: what entry to POWERING sets and clears. -/
def poweringValues (maxRate : Rate) (r : HeadReceiver) : HeadReceiver :=
  { r with rate := maxRate, trainFailures := 0, periods := [], rejectionRun := 0, averagedPeriod := none, previous := none }

/-- R8: entry to POWERING, from any state. -/
def enterPowering (h : HeadId) (s : State) : State :=
  let a := dropRevolution h s
  enterState h .powering (a.setHead h (poweringValues (s.setup.head h).maxRate (a.head h)))

/-- R7, R21: entry to OFF, from any state. -/
def enterOff (h : HeadId) (s : State) : State := enterState h .off (dropRevolution h s)

/-- R12: entry to FAULTED with a cause, from any state. -/
def enterFaulted (h : HeadId) (cause : FaultCause) (s : State) : State :=
  let a := dropRevolution h s
  enterState h .faulted (a.setHead h { a.head h with faultCause := cause })

/-- R2: a TRAIN frame with the current rate is sent, and the attempt timer starts. -/
def sendTrain (h : HeadId) (s : State) : State :=
  s.setHead h { s.head h with trainSent := some (s.head h).rate, attemptTimer := some Config.attemptUs }

/-- Entry to TRAINING at the current rate, with the first TRAIN (R2, R8, R11). -/
def enterTraining (h : HeadId) (s : State) : State := sendTrain h (enterState h .training s)

/-- R9, R18: what entry to ACQUIRING clears. -/
def acquiringValues (r : HeadReceiver) : HeadReceiver :=
  { r with periods := [], previous := none, rejectionRun := 0, averagedPeriod := none }

/-- Entry to ACQUIRING (R9, R18). -/
def enterAcquiring (h : HeadId) (s : State) : State := enterState h .acquiring (s.setHead h (acquiringValues (s.head h)))

/-! ## Training (R9, R10) -/

/-- R9. -/
def trainingSuccess (h : HeadId) (s : State) : State :=
  enterAcquiring h (s.setHead h { s.head h with trainFailures := 0 })

/-- One step down (Table 1-7). -/
def stepDown : Rate → Rate
  | .full => .half
  | .half => .quarter
  | .quarter => .quarter

/-- R10: one failed attempt: downspeed, training fault or retry, the first case that holds. -/
def trainingFailure (h : HeadId) (s : State) : State :=
  let a := countEvents h .trainFailures 1 s
  let r := a.head h
  let n := r.trainFailures + 1
  let limit := (a.setup.head h).downspeed
  if r.rate ≠ .quarter ∧ limit ≠ 0 ∧ limit ≤ n then
    sendTrain h (raiseAll .headState (a.setHead h { r with rate := stepDown r.rate, trainFailures := 0 }))
  else if n = 7 then enterFaulted h .train (a.setHead h { r with trainFailures := 0 })
  else sendTrain h (a.setHead h { r with trainFailures := n })

/-! ## Revolution acceptance (section 1.5) -/

/-- R14, R17, R18: a revolution is rejected: counted, and the history is cleared in ACQUIRING, or the rejection run count rises
in LOCKED and at 3 the head falls back to ACQUIRING. -/
def rejectRevolution (h : HeadId) (s : State) : State :=
  let a := countEvents h .rejected 1 s
  let r := a.head h
  match r.state with
  | .acquiring => a.setHead h { r with periods := [] }
  | .locked =>
    let b := a.setHead h { r with rejectionRun := r.rejectionRun + 1 }
    if r.rejectionRun + 1 = 3 then enterAcquiring h b else b
  | _ => a

/-- R16: a period is appended as the newest of at most four. -/
def appendPeriod (p : Nat) (ps : List Nat) : List Nat := (if ps.length < 4 then ps else ps.drop 1) ++ [p]

/-- R16: the averaged period after an append. -/
def averageOf (ps : List Nat) (old : Option Nat) : Option Nat := if ps.length = 4 then some (ps.sum / 4) else old

/-- R15: how a revolution that is not broken compares with the previous accepted one. -/
inductive Judgement where
  | reference
  | period (p : Nat)
  | badPeriod
  | gap
  deriving DecidableEq, Repr

/-- R15. -/
def judgeRevolution (previous : Option AcceptedRevolution) (r : OpenRevolution) : Judgement :=
  match previous with
  | none => .reference
  | some q =>
    if r.number = q.number + 1 then
      let p := (r.startTime - q.startTime).toNat
      if Config.periodMinUs ≤ p ∧ p ≤ Config.periodMaxUs then .period p else .badPeriod
    else .gap

/-- Every accepted revolution becomes the previous accepted one (R15). -/
def rememberRevolution (h : HeadId) (r : OpenRevolution) (s : State) : State :=
  s.setHead h { s.head h with previous := some { number := r.number, startTime := r.startTime } }

/-- R16: a period enters the history of a head. -/
def takePeriod (h : HeadId) (p : Nat) (s : State) : State :=
  let r := s.head h
  let ps := appendPeriod p r.periods
  s.setHead h { r with periods := ps, averagedPeriod := averageOf ps r.averagedPeriod }

/-- What a LOCKED head delivers (R18). -/
def deliveryOf (h : HeadId) (rate : Rate) (r : OpenRevolution) : Delivery :=
  { head := h, number := r.number, rate := rate, headChainage := r.headChainage, cant := r.cant, cantInvalid := r.cantInvalid,
    cantClamped := r.cantClamped, samples := r.samples }

/-- R99: a revolution that is delivered at the very moment of the break that marked its head is not stale: it had closed before the
mark could be set. One that was also opened at that moment stays stale (log entry 4). -/
def markedAtDelivery (h : HeadId) (r : OpenRevolution) (s : State) : Bool :=
  staleMark s h && decide (staleMoment s h = s.timebase) && decide (r.startTime ≠ s.timebase)

/-- R99: the mark of such a revolution is taken back before the delivery is judged. -/
def settleMark (h : HeadId) (r : OpenRevolution) (s : State) : State := if markedAtDelivery h r s then setStale s h false else s

/-- R99: a close test of the very moment of a delivery was taken first: the revolution had closed at its head before it. -/
def testedAtDelivery (r : OpenRevolution) (s : State) : Bool :=
  decide (s.slb.lastTest = some s.timebase) && decide (r.startTime ≠ s.timebase)

/-- R99: that close test is completed with the revolution closed, which no longer holds its head's position back: slice i closes, and
the delivery then finds it closed (log entry 28). -/
def settleTest (r : OpenRevolution) (s : State) : State := if testedAtDelivery r s then closeTest s else s

/-- R18: an accepted revolution of a LOCKED head clears the rejection run count and is delivered. -/
def acceptLocked (h : HeadId) (r : OpenRevolution) (s : State) : State :=
  let a := settleMark h r (settleTest r (s.setHead h { s.head h with rejectionRun := 0 }))
  deliver (deliveryOf h (a.head h).rate r) a

/-- R17: a head in ACQUIRING whose history holds four entries enters LOCKED. -/
def lockGain (h : HeadId) (s : State) : State :=
  if (s.head h).periods.length = 4 then
    enterState h .locked (s.setHead h { s.head h with rejectionRun := 0 })
  else s

/-- R15 to R18: a revolution that is not broken is judged, in ACQUIRING or in LOCKED. -/
def judgeClosed (h : HeadId) (r : OpenRevolution) (s : State) : State :=
  let locked := headLocked s h
  match judgeRevolution (s.head h).previous r with
  | .badPeriod => rejectRevolution h s
  | .reference =>
    let a := rememberRevolution h r s
    if locked then acceptLocked h r a else a
  | .gap =>
    let a := countEvents h .gap 1 (rememberRevolution h r s)
    let b := a.setHead h { a.head h with periods := [] }
    if locked then acceptLocked h r b else b
  | .period p =>
    let a := takePeriod h p (rememberRevolution h r s)
    if locked then
      acceptLocked h r (if (a.head h).periods.length = 4 then evaluateAdvice a else a)
    else lockGain h a

/-! ## Head link frames -/

/-- The rate code of the frame is the current rate's. -/
def codeMatches (code : Byte) (r : Rate) : Bool := decide (code.toNat = rateCode r)

/-- R2: a TRAIN_ACK that passes its check. -/
def takeTrainAck (h : HeadId) (code : Byte) (s : State) : State :=
  match (s.head h).state with
  | .training => if codeMatches code (s.head h).rate then trainingSuccess h s else trainingFailure h s
  | _ => s

/-- The head handles REV_START, SAMPLE_BLOCK and REV_END (Table 1-9). -/
def handlesRevolutions (s : State) (h : HeadId) : Bool :=
  match (s.head h).state with
  | .acquiring => true
  | .locked => true
  | _ => false

/-- R3, R34, R47: the revolution a REV_START opens, with its snapshots. -/
def openedRevolution (h : HeadId) (number : BitVec 16) (code : Byte) (s : State) : OpenRevolution :=
  { number := number, rateCode := code, nextBlock := 0, broken := !codeMatches code (s.head h).rate, startTime := s.timebase,
    headChainage := headChainage s h, cant := s.scv.cant.value, cantInvalid := decide (s.scv.cant.status ≠ .valid),
    cantClamped := s.scv.cant.clamped, samples := [] }

/-- R3: a REV_START in ACQUIRING or LOCKED. Opening a revolution clears the head's stale mark (R81). -/
def takeRevStart (h : HeadId) (number : BitVec 16) (code : Byte) (s : State) : State :=
  if handlesRevolutions s h then
    let a := s.setHead h { s.head h with watchdog := some Config.watchdogUs }
    let b := if (a.head h).openRev.isSome then rejectRevolution h (dropRevolution h a) else a
    setStale (b.setHead h { b.head h with openRev := some (openedRevolution h number code b) }) h false
  else s

/-- R4: a block is stored when it is the next one expected and below B; any other index marks the revolution broken. Whether the next
expected index still rises for an in-order block of a broken revolution is open: the model leaves it, and no outcome depends on it
(DESIGN CHOICE, log entry 25). -/
def storeBlock (rate : Rate) (block : Nat) (xs : List Sample) (r : OpenRevolution) : OpenRevolution :=
  if block = r.nextBlock ∧ block < rateBlocks rate then
    if r.broken then r else { r with nextBlock := r.nextBlock + 1, samples := r.samples ++ xs }
  else { r with broken := true }

/-- R4. -/
def takeSampleBlock (h : HeadId) (block : Byte) (samples : Vector Sample 64) (s : State) : State :=
  if handlesRevolutions s h then
    match (s.head h).openRev with
    | none => s
    | some r => s.setHead h { s.head h with openRev := some (storeBlock (s.head h).rate block.toNat samples.toList r) }
  else s

/-- R5, R14: the revolution is broken at its REV_END. -/
def brokenAtEnd (rate : Rate) (number count : BitVec 16) (r : OpenRevolution) : Bool :=
  r.broken || decide (r.number ≠ number) || decide (count.toNat ≠ rateSamples rate) || decide (r.nextBlock < rateBlocks rate)

/-- R5: a REV_END closes the open revolution, which is then judged. -/
def takeRevEnd (h : HeadId) (number count : BitVec 16) (s : State) : State :=
  if handlesRevolutions s h then
    match (s.head h).openRev with
    | none => s
    | some r =>
      let a := dropRevolution h s
      if brokenAtEnd (s.head h).rate number count r then rejectRevolution h a else judgeClosed h r a
  else s

/-- R1: a frame that fails its check: counted in TRAINING, ACQUIRING and LOCKED, and in TRAINING the end of the attempt. -/
def dropFrame (h : HeadId) (s : State) : State :=
  match (s.head h).state with
  | .training => trainingFailure h (countEvents h .frameCheck 1 s)
  | .acquiring => countEvents h .frameCheck 1 s
  | .locked => countEvents h .frameCheck 1 s
  | _ => s

/-! ## Head timers -/

/-- R8: the settle timer expires in POWERING. -/
def settleExpires (h : HeadId) (s : State) : State :=
  match (s.head h).state with
  | .powering =>
    if (s.scv.line h).cls ≠ .normal then enterFaulted h .line s
    else if (s.scv.supply h).state = .outOfWindow then enterFaulted h .supply s
    else enterTraining h s
  | _ => s

/-- R10: the attempt timer expires in TRAINING. -/
def attemptExpires (h : HeadId) (s : State) : State :=
  match (s.head h).state with
  | .training => trainingFailure h s
  | _ => s

/-- R11, R19: the watchdog expires in ACQUIRING or LOCKED; an open revolution is rejected BROKEN and counted. -/
def watchdogExpires (h : HeadId) (s : State) : State :=
  if handlesRevolutions s h then
    let a := if (s.head h).openRev.isSome then countEvents h .rejected 1 (dropRevolution h s) else s
    enterTraining h a
  else s

/-! ## Reports of the Sense Converter (R12) -/

/-- The head is in POWERING, TRAINING, ACQUIRING or LOCKED. -/
def headActive (s : State) (h : HeadId) : Bool :=
  match (s.head h).state with
  | .off => false
  | .faulted => false
  | _ => true

/-- R12: a change of a head's line class. -/
def reportLine (h : HeadId) (c : LineClass) (s : State) : State :=
  if headActive s h && decide (c ≠ .normal) then enterFaulted h .line s else s

/-- R12: a change of a head's supply state. -/
def reportSupply (h : HeadId) (c : SupplyState) (s : State) : State :=
  if headActive s h && decide (c = .outOfWindow) then enterFaulted h .supply s else s

/-! ## Requests (section 1.6) -/

/-- R20: an accepted HEAD RESTART raises HEAD_STATE even when the head is in POWERING already (R6). -/
def restartHead (h : HeadId) (s : State) : State := raiseAll .headState (enterPowering h s)

/-- R7: a TABLE WRITE of HEAD_ENABLE[h] with a value, once the entry is written. -/
def headEnableWritten (h : HeadId) (on : Bool) (s : State) : State :=
  if on then (if (s.head h).state = .off then enterPowering h s else s) else enterOff h s

end Sys2Proof.Machine
end

