-- ==== Sys2Proof/Machine/Sense.lean ====
section
/-! DEFINITION. The Sense Converter (chapter 2): windows and filtered codes, the supply check, the line classifier and the cant
conversion. -/

namespace Sys2Proof.Machine

/-- R25: the window takes a code as its newest entry, and holds at most eight. -/
def pushCode (raw : BitVec 12) (w : List (BitVec 12)) : List (BitVec 12) := (if w.length < 8 then w else w.drop 1) ++ [raw]

/-- R26: the floor of the mean of the newest n codes, n the smaller of AVG and the codes held. -/
def filterCode (avg : Nat) (w : List (BitVec 12)) : Nat :=
  let n := min avg w.length
  ((w.drop (w.length - n)).map BitVec.toNat).sum / n

/-- A conversion of a channel with AVG in force (R25, R26). -/
def convertChannel (avg : Nat) (raw : BitVec 12) (c : SenseChannel) : SenseChannel :=
  { window := pushCode raw c.window, filtered := some (filterCode avg (pushCode raw c.window)) }

/-! ## Supply (R27) -/

/-- The code lies inside the supply window, both bounds included (R27). -/
def insideWindow (u : SupplySetup) (code : Nat) : Bool := decide (u.low ≤ code) && decide (code ≤ u.high)

/-- The side a code lies on. -/
def supplySide (u : SupplySetup) (code : Nat) : SupplyState := if insideWindow u code then .inWindow else .outOfWindow

/-- R27: the debounced judgement of a supply. -/
def judgeSupply (u : SupplySetup) (code : Nat) (m : SupplyMonitor) : SupplyMonitor :=
  if supplySide u code = m.state then { m with count := 0 }
  else if m.count + 1 = 3 then { m with state := supplySide u code, count := 0 }
  else { m with count := m.count + 1 }

/-- R27: a conversion of SUPPLY1 or SUPPLY2. -/
def convertSupply (h : HeadId) (raw : BitVec 12) (s : State) : State :=
  let old := s.scv.supply h
  let ch := convertChannel (s.setup.avgSupply h) raw old.channel
  let m := judgeSupply (s.setup.supply h) (ch.filtered.getD 0) { old with channel := ch }
  let t := { s with scv := s.scv.setSupply h m }
  if m.state = old.state then t else reportSupply h m.state (raiseAll .supplyRange t)

/-! ## Line (R29) -/

/-- Table 2-3. -/
def lineBand (code : Nat) : LineClass :=
  if code ≤ 255 then .shortGnd else if code ≤ 2815 then .normal else if code ≤ 3839 then .opened else .shortSupply

/-- R29: the debounced class of a line. -/
def judgeLine (code : Nat) (m : LineMonitor) : LineMonitor :=
  let band := lineBand code
  if band = m.cls then { m with candidate := none, count := 0 }
  else if m.candidate = some band then
    if m.count + 1 = 3 then { m with cls := band, candidate := none, count := 0 } else { m with count := m.count + 1 }
  else { m with candidate := some band, count := 1 }

/-- R29, R30: a conversion of LINE1 or LINE2. -/
def convertLine (h : HeadId) (raw : BitVec 12) (s : State) : State :=
  let old := s.scv.line h
  let ch := convertChannel (s.setup.avgLine h) raw old.channel
  let m := judgeLine (ch.filtered.getD 0) { old with channel := ch }
  let t := { s with scv := s.scv.setLine h m }
  if m.cls = old.cls then t else reportLine h m.cls (raiseAll .lineFault t)

/-! ## Cant (R31 to R33) -/

/-- R32: the rounded result, before the clamp. -/
def cantResult (zeroCode gain code : Nat) : Int := roundDiv (((code : Int) - zeroCode) * gain) 256

/-- R31 to R33: the cant values from a filtered code. -/
def judgeCant (zeroCode gain code : Nat) (m : CantMonitor) : CantMonitor :=
  if code = 0 ∨ code = 4095 then { m with status := .invalid }
  else
    let v := cantResult zeroCode gain code
    { m with status := .valid, value := clampInt (-1000) 1000 v, clamped := decide (v < -1000) || decide (1000 < v) }

/-- The changes of status that raise CANT_INVALID (R31). -/
def cantEvent (old new : CantStatus) : Bool :=
  match old, new with
  | .valid, .invalid => true
  | .invalid, .valid => true
  | .notYet, .invalid => true
  | _, _ => false

/-- R31: a conversion of CANT. -/
def convertCant (raw : BitVec 12) (s : State) : State :=
  let old := s.scv.cant
  let ch := convertChannel s.setup.avgCant raw old.channel
  let m := judgeCant s.setup.cantZero s.setup.cantGain (ch.filtered.getD 0) { old with channel := ch }
  let t := { s with scv := { s.scv with cant := m } }
  if cantEvent old.status m.status then raiseAll .cantInvalid t else t

/-- R25: the channel that follows in the fixed order CANT, SUPPLY1, SUPPLY2, LINE1, LINE2, and CANT again. -/
def channelAfter : Channel → Channel
  | .cant => .supply .h1
  | .supply .h1 => .supply .h2
  | .supply .h2 => .line .h1
  | .line .h1 => .line .h2
  | .line .h2 => .cant

/-- The code of a conversion enters its channel (R25). -/
def convert (ch : Channel) (raw : BitVec 12) (s : State) : State :=
  match ch with
  | .cant => convertCant raw s
  | .supply h => convertSupply h raw s
  | .line h => convertLine h raw s

/-- R25: a conversion of a channel completes. The next one is of the channel after it in the order, 400 µs later. The part's own clock
completes only the conversion that is next (`dueEvents`); one that is commanded from outside is carried out for the channel it
names, at whatever moment, and the order goes on from there (DESIGN CHOICE, log entry 7). -/
def takeConversion (ch : Channel) (raw : BitVec 12) (s : State) : State :=
  convert ch raw { s with conversionTime := 0, nextChannel := channelAfter ch }

end Sys2Proof.Machine
end

