-- ==== Sys2Proof/Machine/Locks.lean ====
section
/-! DEFINITION. The Lock Table (section 10.4) with what the owning blocks do at a take and at a release (R59 to R61, R126 to
R131), the links (R171) and a port's cursor at link loss and port reset (R152). -/

namespace Sys2Proof.Machine

/-! ## Taking and giving (R172, R173) -/

/-- What a take of a lock from free does in the owning block: R127 for ENVELOPE, R59 for MARKERS. -/
def reportTake (k : Lock) (s : State) : State :=
  match k with
  | .envelope => markOpenSlices s
  | .markers => setNext none s
  | .setup => s

/-- R173: TAKE LOCK of a lock. -/
def takeLockOf (p : PortId) (k : Lock) (s : State) : State × Reply :=
  match s.locks.holder k with
  | none => (reportTake k (setLock k (some p) s), bare .granted)
  | some q => if q = p then (s, bare .granted) else (s, { status := .held, payload := bytesOf 1 (portNumber q) })

/-- The index of the first failing entry of the table a lock guards, none when the table is valid (R60, R130); SETUP has no
validation (R172). -/
def lockFault (k : Lock) (s : State) : Option Nat :=
  match k with
  | .envelope => zoneListFault s.env
  | .markers => markerTableFault s.mku
  | .setup => none

/-- What a release by GIVE does in the owning block: the suspension flag is cleared, and matching resumes from the recomputed
marker (R60, R130). -/
def reportGive (k : Lock) (s : State) : State :=
  match k with
  | .envelope => { s with env := { s.env with suspended := false } }
  | .markers => recomputeNext { s with mku := { s.mku with suspended := false } }
  | .setup => s

/-- R173: GIVE LOCK of a lock. -/
def giveLockOf (p : PortId) (k : Lock) (s : State) : State × Reply :=
  if s.locks.holder k = some p then
    match lockFault k s with
    | some i => (s, { status := .orderError, payload := bytesOf 1 i })
    | none => (reportGive k (setLock k none s), bare .ok)
  else (s, bare .notHolder)

/-! ## Forced release (R174) -/

/-- What a forced release does in the owning block (R61, R131). -/
def reportForced (k : Lock) (s : State) : State :=
  match k with
  | .envelope => suspendZones s
  | .markers => recomputeNext (suspendMarkers s)
  | .setup => s

/-- One lock is freed by force if the port holds it. -/
def forceLock (p : PortId) (k : Lock) (s : State) : State :=
  if s.locks.holder k = some p then reportForced k (setLock k none s) else s

/-- The port holds at least one lock. -/
def holdsAny (s : State) (p : PortId) : Bool := holds s p .envelope || holds s p .markers || holds s p .setup

/-- R174: every lock the port holds is freed by force, and LOCK_FORCED is raised once if there was one. -/
def forcedRelease (p : PortId) (s : State) : State :=
  if holdsAny s p then
    raiseAll .lockForced (forceLock p .setup (forceLock p .markers (forceLock p .envelope s)))
  else s

/-! ## Cursor at link loss (R152) -/

/-- R152: the cursor is demoted to FOLLOW; a demotion from RETAIN is a retry event. -/
def demoteCursor (p : PortId) (s : State) : State :=
  if (s.pst.cursor p).mode = .retain then retryEvent (setCursorOf p { s.pst.cursor p with mode := .follow } s) else s

/-- R152: the cursor at PORT RESET, which is one retry event. -/
def resetCursor (p : PortId) (s : State) : State :=
  retryEvent (setCursorOf p { position := s.pst.nextSeq, mode := .follow, missed := 0 } s)

/-! ## Links (R171) -/

/-- A valid frame brings the link UP and restarts its timer (R171). -/
def validFrame (p : PortId) (s : State) : State := s.setPort p { s.port p with link := .up 0 }

/-- R171: the link goes DOWN. -/
def linkDown (p : PortId) (s : State) : State :=
  raiseOthers .portDown p (demoteCursor p (forcedRelease p (s.setPort p { s.port p with link := .down })))

/-- The link is UP, the timeout is not stopped, and the time since the last valid frame reaches LINK_TIMEOUT[p] × 10 ms (R171). -/
def linkExpired (p : PortId) (s : State) : Bool :=
  match (s.port p).link with
  | .down => false
  | .up elapsed => decide (s.setup.linkTimeout p ≠ 0) && decide (s.setup.linkTimeout p * Config.linkUnitUs ≤ elapsed)

/-- R171: the link timer of the port expires. After a valid frame (R171) or a soft reset (R182) that was taken first, the timer has
restarted and the link stays UP. -/
def linkExpires (p : PortId) (s : State) : State := if linkExpired p s then linkDown p s else s

/-- R171: LINK_TIMEOUT[p] has been written: the link goes DOWN at once if the elapsed time already reaches it. -/
def linkTimeoutWritten (p : PortId) (s : State) : State := if linkExpired p s then linkDown p s else s

end Sys2Proof.Machine
end

