-- ==== Sys2Proof/Machine/Tables.lean ====
section
/-! DEFINITION. Table access (section 10.7): the setup entries with their index map, ranges and encodings (Tables 11-8, 11-12,
11-13), the other three tables' entries, TABLE POINT, TABLE READ and TABLE WRITE (R178, R122, R124, R57, R58). -/

namespace Sys2Proof.Machine

/-! ## Setup entries -/

/-- The setup entries, by the names of Table 11-12. -/
inductive SetupEntry where
  | headEnable (h : HeadId)
  | headMaxRate (h : HeadId)
  | headDownspeed (h : HeadId)
  | headOffset (h : HeadId)
  | headZero (h : HeadId)
  | headPhase (h : HeadId)
  | headShadow (h : HeadId)
  | intensityFloor (h : HeadId)
  | rangeMin
  | rangeMax
  | orientation
  | sliceLength
  | minRevs
  | encK
  | slipTol
  | surveyHold
  | missLimit
  | cantZero
  | cantGain
  | avg (ch : Channel)
  | supplyLow (h : HeadId)
  | supplyHigh (h : HeadId)
  | vCfg
  | vCrawl
  | storeHigh
  | stopEnable
  | linkTimeout (p : PortId)
  deriving DecidableEq, Repr

/-- The eight entries of a head, in the order of Table 11-12. -/
def headEntry (h : HeadId) (i : Nat) : SetupEntry :=
  match i with
  | 0 => .headEnable h
  | 1 => .headMaxRate h
  | 2 => .headDownspeed h
  | 3 => .headOffset h
  | 4 => .headZero h
  | 5 => .headPhase h
  | 6 => .headShadow h
  | _ => .intensityFloor h

/-- Table 11-12. -/
def setupEntryOf (i : Nat) : SetupEntry :=
  match i with
  | 16 => .rangeMin
  | 17 => .rangeMax
  | 18 => .orientation
  | 19 => .sliceLength
  | 20 => .minRevs
  | 21 => .encK
  | 22 => .slipTol
  | 23 => .surveyHold
  | 24 => .missLimit
  | 25 => .cantZero
  | 26 => .cantGain
  | 27 => .avg .cant
  | 28 => .avg (.supply .h1)
  | 29 => .avg (.supply .h2)
  | 30 => .avg (.line .h1)
  | 31 => .avg (.line .h2)
  | 32 => .supplyLow .h1
  | 33 => .supplyHigh .h1
  | 34 => .supplyLow .h2
  | 35 => .supplyHigh .h2
  | 36 => .vCfg
  | 37 => .vCrawl
  | 38 => .storeHigh
  | 39 => .stopEnable
  | 40 => .linkTimeout .p0
  | 41 => .linkTimeout .p1
  | 42 => .linkTimeout .p2
  | n => if n < 8 then headEntry .h1 n else headEntry .h2 (n - 8)

/-- Run-fixed entries (R178). -/
def runFixed : SetupEntry → Bool
  | .headOffset _ => true
  | .headZero _ => true
  | .headPhase _ => true
  | .headShadow _ => true
  | .orientation => true
  | .sliceLength => true
  | .encK => true
  | _ => false

/-- What a setup entry admits (Table 11-13). -/
inductive EntryRange where
  /-- an enumerated entry with its set -/
  | oneOf (codes : List Int)
  /-- a numeric entry, clamped to its range -/
  | within (lo hi : Int)
  /-- the 64-bit mask of HEAD_SHADOW -/
  | mask
  deriving DecidableEq, Repr

/-- Table 11-13, with the sets of R178. -/
def entryRange : SetupEntry → EntryRange
  | .headEnable _ => .oneOf [0, 1]
  | .headMaxRate _ => .oneOf [1, 2, 3]
  | .headDownspeed _ => .oneOf [0, 2, 4, 6]
  | .headOffset _ => .within (-5000) 5000
  | .headZero _ => .within (-2048) 2047
  | .headPhase _ => .within 0 2047
  | .headShadow _ => .mask
  | .intensityFloor _ => .within 0 255
  | .rangeMin => .within 0 65535
  | .rangeMax => .within 0 65535
  | .orientation => .oneOf [0, 1]
  | .sliceLength => .within 25 1000
  | .minRevs => .within 1 8
  | .encK => .within 1000 20000
  | .slipTol => .within 5 100
  | .surveyHold => .within 1 10000
  | .missLimit => .within 0 7
  | .cantZero => .within 0 4095
  | .cantGain => .within 0 1023
  | .avg _ => .oneOf [1, 2, 4, 8]
  | .supplyLow _ => .within 0 4095
  | .supplyHigh _ => .within 0 4095
  | .vCfg => .within 1 10000
  | .vCrawl => .within 1 10000
  | .storeHigh => .within 1 2048
  | .stopEnable => .oneOf [0, 1]
  | .linkTimeout _ => .within 0 6000

/-- AVG[ch] as it stands. -/
def avgOf (u : Setup) : Channel → Nat
  | .cant => u.avgCant
  | .supply h => u.avgSupply h
  | .line h => u.avgLine h

def setAvg (u : Setup) (ch : Channel) (v : Nat) : Setup :=
  match ch with
  | .cant => { u with avgCant := v }
  | .supply .h1 => { u with avgSupply1 := v }
  | .supply .h2 => { u with avgSupply2 := v }
  | .line .h1 => { u with avgLine1 := v }
  | .line .h2 => { u with avgLine2 := v }

def setSupplySetup (u : Setup) (h : HeadId) (v : SupplySetup) : Setup :=
  match h with
  | .h1 => { u with supply1 := v }
  | .h2 => { u with supply2 := v }

/-- The value of a setup entry as TABLE READ reports it; HEAD_SHADOW is the mask as an unsigned number. -/
def setupValue (u : Setup) : SetupEntry → Int
  | .headEnable h => flagCode (u.head h).enable
  | .headMaxRate h => rateCode (u.head h).maxRate
  | .headDownspeed h => (u.head h).downspeed
  | .headOffset h => (u.head h).offset
  | .headZero h => (u.head h).zero
  | .headPhase h => (u.head h).phase
  | .headShadow h => (u.head h).shadow.toNat
  | .intensityFloor h => (u.head h).intensityFloor
  | .rangeMin => u.rangeMin
  | .rangeMax => u.rangeMax
  | .orientation => orientationCode u.orientation
  | .sliceLength => u.sliceLength
  | .minRevs => u.minRevs
  | .encK => u.encK
  | .slipTol => u.slipTol
  | .surveyHold => u.surveyHold
  | .missLimit => u.missLimit
  | .cantZero => u.cantZero
  | .cantGain => u.cantGain
  | .avg ch => avgOf u ch
  | .supplyLow h => (u.supply h).low
  | .supplyHigh h => (u.supply h).high
  | .vCfg => u.vCfg
  | .vCrawl => u.vCrawl
  | .storeHigh => u.storeHigh
  | .stopEnable => flagCode u.stopEnable
  | .linkTimeout p => u.linkTimeout p

/-- The setup with an admitted value written to an entry. -/
def setSetup (u : Setup) (e : SetupEntry) (v : Int) : Setup :=
  match e with
  | .headEnable h => u.setHead h { u.head h with enable := (flagOf v).getD false }
  | .headMaxRate h => u.setHead h { u.head h with maxRate := (rateOf v).getD .full }
  | .headDownspeed h => u.setHead h { u.head h with downspeed := v.toNat }
  | .headOffset h => u.setHead h { u.head h with offset := v }
  | .headZero h => u.setHead h { u.head h with zero := v }
  | .headPhase h => u.setHead h { u.head h with phase := v.toNat }
  | .headShadow h => u.setHead h { u.head h with shadow := BitVec.ofInt 64 v }
  | .intensityFloor h => u.setHead h { u.head h with intensityFloor := v.toNat }
  | .rangeMin => { u with rangeMin := v.toNat }
  | .rangeMax => { u with rangeMax := v.toNat }
  | .orientation => { u with orientation := (orientationOf v).getD .forward }
  | .sliceLength => { u with sliceLength := v.toNat }
  | .minRevs => { u with minRevs := v.toNat }
  | .encK => { u with encK := v.toNat }
  | .slipTol => { u with slipTol := v.toNat }
  | .surveyHold => { u with surveyHold := v.toNat }
  | .missLimit => { u with missLimit := v.toNat }
  | .cantZero => { u with cantZero := v.toNat }
  | .cantGain => { u with cantGain := v.toNat }
  | .avg ch => setAvg u ch v.toNat
  | .supplyLow h => setSupplySetup u h { u.supply h with low := v.toNat }
  | .supplyHigh h => setSupplySetup u h { u.supply h with high := v.toNat }
  | .vCfg => { u with vCfg := v.toNat }
  | .vCrawl => { u with vCrawl := v.toNat }
  | .storeHigh => { u with storeHigh := v.toNat }
  | .stopEnable => { u with stopEnable := (flagOf v).getD false }
  | .linkTimeout p => u.setLinkTimeout p v.toNat

/-- The effects a taken write of a setup entry has beyond the entry itself: R7 for HEAD_ENABLE, R40 for ENC_K, R171 for
LINK_TIMEOUT, R156 for the inputs of the Advice Unit. HEAD_ENABLE[h] off for a LOCKED head changes two inputs, the entry and the
head's exit from LOCKED: the entry is taken first (R165 gives no order; DESIGN CHOICE, log entry 27). -/
def setupWritten (e : SetupEntry) (v : Int) (s : State) : State :=
  match e with
  | .headEnable h => headEnableWritten h (decide (v = 1)) (evaluateAdvice s)
  | .encK => { s with chu := { s.chu with remainder := 0 } }
  | .linkTimeout p => linkTimeoutWritten p s
  | .vCfg => evaluateAdvice s
  | .vCrawl => evaluateAdvice s
  | .storeHigh => evaluateAdvice s
  | .minRevs => evaluateAdvice s
  | _ => s

/-! ## Tables (Table 10-6) -/

/-- The last index of a table. -/
def lastIndex : Table → Nat
  | .setup => 42
  | .profiles => 511
  | .zones => 32
  | .markers => 255

/-- The lock a write of a table needs. -/
def tableLock : Table → Lock
  | .setup => .setup
  | .profiles => .envelope
  | .zones => .envelope
  | .markers => .markers

/-- The length of an entry (Table 11-8). -/
def entryLength (t : Table) (i : Nat) : Nat :=
  match t with
  | .setup => if entryRange (setupEntryOf i) = .mask then 8 else 4
  | .profiles => 2
  | .zones => 14
  | .markers => 8

/-! ## Reading an entry -/

def zoneBytes (enabled : Bool) (start stopAt profile margin confirm : Nat) (stop : Bool) : List Byte :=
  bytesOf 1 (flagCode enabled) ++ bytesOf 4 start ++ bytesOf 4 stopAt ++ bytesOf 1 profile ++ bytesOf 2 margin ++
    bytesOf 1 confirm ++ bytesOf 1 (flagCode stop)

/-- R124: a list entry; index 32 reports DEFAULT as enabled from 0 to 1,000,000,000. -/
def zoneEntryBytes (e : EnvelopeTables) (i : Nat) : List Byte :=
  match e.zones[i]? with
  | some z => zoneBytes z.enabled z.start z.stopAt z.profile z.margin z.confirm z.stop
  | none => zoneBytes true 0 1000000000 e.default.profile e.default.margin e.default.confirm e.default.stop

def markerBytes (e : MarkerEntry) : List Byte :=
  bytesOf 1 (flagCode e.enabled) ++ bytesOf 4 e.surveyed ++ bytesOf 2 e.window ++ bytesOf 1 (kindCode e.kind)

/-- The entry at an index, as TABLE READ returns it (Table 11-8). -/
def entryBytes (s : State) (t : Table) (i : Nat) : List Byte :=
  match t with
  | .setup => bytesOf (entryLength .setup i) (setupValue s.setup (setupEntryOf i))
  | .profiles => bytesOf 2 ((s.env.radii[i]?).getD 0 : Nat)
  | .zones => zoneEntryBytes s.env i
  | .markers => markerBytes (markerAt s i)

/-! ## Writing an entry -/

/-- Bytes k to k + n − 1 of an entry, as an unsigned number. -/
def fieldNat (k n : Nat) (entry : List Byte) : Nat := natOf ((entry.drop k).take n)

/-- The last three findings of R178 with what the write leaves. -/
inductive WriteOutcome where
  | badValue
  | written (clamped : Bool) (s : State)

/-- R178: a write of a setup entry. -/
def writeSetup (i : Nat) (entry : List Byte) (s : State) : WriteOutcome :=
  let e := setupEntryOf i
  match entryRange e with
  | .mask => .written false (setupWritten e (natOf entry) { s with setup := setSetup s.setup e (natOf entry) })
  | .oneOf codes =>
    if intOf entry ∈ codes then
      .written false (setupWritten e (intOf entry) { s with setup := setSetup s.setup e (intOf entry) })
    else .badValue
  | .within lo hi =>
    let v := clampInt lo hi (intOf entry)
    .written (decide (v ≠ intOf entry)) (setupWritten e v { s with setup := setSetup s.setup e v })

/-- R122: a write of a radius, which is noted for a binning of the same moment (R113, log entry 26). -/
def writeProfile (i : Nat) (entry : List Byte) (s : State) : WriteOutcome :=
  .written false
    { s with env := { s.env with radii := s.env.radii.setIfInBounds i (natOf entry) },
             slb := { s.slb with radiusWrites := ⟨i, (s.env.radii[i]?).getD 0⟩ :: s.slb.radiusWrites } }

/-- A value brought to its range, and whether that changed it. -/
def clampField (lo hi v : Nat) : Nat × Bool :=
  if v < lo then (lo, true) else if hi < v then (hi, true) else (v, false)

/-- R124: a write of a list entry, or of DEFAULT at index 32. -/
def writeZone (i : Nat) (entry : List Byte) (s : State) : WriteOutcome :=
  let profile := fieldNat 9 1 entry
  let margin := clampField 0 4095 (fieldNat 10 2 entry)
  let confirm := clampField 1 15 (fieldNat 12 1 entry)
  match flagOf (fieldNat 13 1 entry) with
  | none => .badValue
  | some stop =>
    if 7 < profile then .badValue
    else if i = 32 then
      .written (margin.2 || confirm.2)
        { s with env := { s.env with default := { profile := profile, margin := margin.1, confirm := confirm.1, stop := stop } } }
    else
      match flagOf (fieldNat 0 1 entry) with
      | none => .badValue
      | some enabled =>
        let start := clampField 0 1000000000 (fieldNat 1 4 entry)
        let stopAt := clampField 0 1000000000 (fieldNat 5 4 entry)
        let z : ZoneEntry :=
          { enabled := enabled, start := start.1, stopAt := stopAt.1, profile := profile, margin := margin.1,
            confirm := confirm.1, stop := stop }
        .written (start.2 || stopAt.2 || margin.2 || confirm.2)
          { s with env := { s.env with zones := s.env.zones.setIfInBounds i z } }

/-- R58: a write of a marker entry. -/
def writeMarker (i : Nat) (entry : List Byte) (s : State) : WriteOutcome :=
  match flagOf (fieldNat 0 1 entry), kindOf (fieldNat 7 1 entry) with
  | some enabled, some kind =>
    let surveyed := clampField 0 Config.maxMm (fieldNat 1 4 entry)
    let window := clampField 10 2000 (fieldNat 5 2 entry)
    let m : MarkerEntry := { enabled := enabled, surveyed := surveyed.1, window := window.1, kind := kind }
    .written (surveyed.2 || window.2) { s with mku := { s.mku with table := s.mku.table.setIfInBounds i m } }
  | _, _ => .badValue

def writeEntry (t : Table) (i : Nat) (entry : List Byte) (s : State) : WriteOutcome :=
  match t with
  | .setup => writeSetup i entry s
  | .profiles => writeProfile i entry s
  | .zones => writeZone i entry s
  | .markers => writeMarker i entry s

/-! ## The three requests (R178) -/

/-- The pointer's index rises by one, stopping at the last index + 1. -/
def advancePointer (p : PortId) (s : State) : State :=
  s.setPort p { s.port p with index := min (lastIndex (s.port p).table + 1) ((s.port p).index + 1) }

/-- R178: TABLE POINT. -/
def pointTable (p : PortId) (table : Byte) (index : BitVec 16) (s : State) : State × Reply :=
  match tableOf table with
  | none => (s, bare .badValue)
  | some t =>
    if lastIndex t + 1 < index.toNat then (s, bare .indexRange)
    else (s.setPort p { s.port p with table := t, index := index.toNat }, bare .ok)

/-- R178: TABLE READ. -/
def readTable (p : PortId) (mode : Byte) (s : State) : State × Reply :=
  match advanceOf mode with
  | none => (s, bare .badValue)
  | some m =>
    let t := (s.port p).table
    let i := (s.port p).index
    if lastIndex t < i then (s, bare .indexRange)
    else (if m = .afterAny then advancePointer p s else s, { status := .ok, payload := entryBytes s t i })

/-- A SETUP entry marked run-fixed while the run is not IDLE (R178). -/
def fixedByRun (s : State) (t : Table) (i : Nat) : Bool :=
  decide (t = .setup) && runFixed (setupEntryOf i) && decide (s.slb.run ≠ .idle)

/-- R178: TABLE WRITE, judged in the order of its table of findings. -/
def writeTable (p : PortId) (mode : Byte) (entry : List Byte) (s : State) : State × Reply :=
  match advanceOf mode with
  | none => (s, bare .badValue)
  | some m =>
    let t := (s.port p).table
    let i := (s.port p).index
    if lastIndex t < i then (s, bare .indexRange)
    else if entry.length ≠ entryLength t i then (s, bare .badLength)
    else if holds s p (tableLock t) = false then (s, bare .lockRequired)
    else if fixedByRun s t i then (s, bare .runActive)
    else
      match writeEntry t i entry s with
      | .badValue => (s, bare .badValue)
      | .written clamped a =>
        (if m = .none then a else advancePointer p a, bare (if clamped then .clamped else .ok))

end Sys2Proof.Machine
end

