-- ==== Sys2Proof/Machine/Reports.lean ====
section
/-! DEFINITION. The reports of the part as bytes: READ STATUS (R179, Table 11-7), READ HEAD STATUS (R22, Table 11-9), READ
SENSE (R35, Table 11-10), READ CAPTURES (R71, Table 11-11) and READ CURSOR (R147, Table 11-4). -/

namespace Sys2Proof.Machine

/-! ## READ STATUS (Table 11-7) -/

/-- Bytes 0 to 9: the Slice Builder items (R98). -/
def runReport (b : SliceBuilder) : List Byte :=
  bytesOf 1 (runStateCode b.run) ++ bytesOf 1 (directionCode b.direction) ++ bytesOf 2 b.runNumber.toNat ++
    bytesOf 2 b.segment.toNat ++ bytesOf 1 b.openSlices.length ++ bytesOf 1 b.pendingSlices.length ++
    bytesOf 2 b.carriedOverruns

/-- Bytes 10 to 13: states, then rates, of the two heads. -/
def headsReport (s : State) : List Byte :=
  bytesOf 1 (headStateCode s.head1.state) ++ bytesOf 1 (headStateCode s.head2.state) ++ bytesOf 1 (rateCode s.head1.rate) ++
    bytesOf 1 (rateCode s.head2.rate)

/-- Bytes 14 to 27: the Chainage Unit items (R55). -/
def positionReport (s : State) : List Byte :=
  bytesOf 4 (chainageMm s) ++ bytesOf 2 (speed s.chu) ++ bytesOf 1 (directionCode s.chu.direction) ++
    bytesOf 1 (qualityCode s.chu.quality) ++
    bytesOf 1 (flagBit 0 (isFailed s.chu.left) + flagBit 1 (isFailed s.chu.right) + flagBit 2 s.chu.slip : Nat) ++ [0] ++
    bytesOf 4 (s.chu.travel / 1000 : Nat)

/-- Bytes 28 to 31: lookup state, matching state and the suspension flags (R133). -/
def tablesReport (s : State) : List Byte :=
  bytesOf 1 (tableStateCode (lookupState s)) ++ bytesOf 1 (flagCode s.env.suspended) ++
    bytesOf 1 (tableStateCode (matchingState s)) ++ bytesOf 1 (flagCode s.mku.suspended)

/-- Bytes 32 to 47: the Profile Store items (R154). -/
def storeReport (t : ProfileStore) : List Byte :=
  bytesOf 2 (fill t) ++ bytesOf 1 (flagCode t.commitBlocked) ++ [0] ++ bytesOf 4 (oldestSeq t).toNat ++
    bytesOf 4 (newestSeq t).toNat ++ bytesOf 4 t.nextSeq.toNat

/-- The causes byte of Table 11-7. -/
def causeBits (a : Advice) : Nat :=
  flagBit 0 a.storeFill + flagBit 1 a.quality + flagBit 2 a.headMissing + flagBit 4 a.latch + flagBit 5 a.pending +
    flagBit 6 a.qualityLost + flagBit 7 a.noHead

def lastStopCode : LastStop → Nat
  | .none => 0
  | .set => 1
  | .cleared _ => 2

def clearingPort : LastStop → Nat
  | .cleared p => portNumber p
  | _ => 0

/-- Bytes 48 to 58: the Advice Unit items (R166). -/
def adviceReport (a : AdviceUnit) : List Byte :=
  bytesOf 1 (levelCode a.advice.level) ++ bytesOf 1 (causeBits a.advice) ++ bytesOf 2 a.advice.vAdv ++
    bytesOf 4 (a.advice.vCov.getD 0 : Nat) ++ bytesOf 1 (flagCode a.stopLatch) ++ bytesOf 1 (lastStopCode a.lastStop) ++
    bytesOf 1 (clearingPort a.lastStop)

/-- A lock holder in two bits, 3 for free. -/
def holderCode : Option PortId → Nat
  | none => 3
  | some p => portNumber p

/-- Bytes 59 to 69: lock holders, links, the requesting port, the Signal Word and the timebase. -/
def portsReport (p : PortId) (s : State) : List Byte :=
  bytesOf 1 (holderCode s.locks.envelope + 4 * holderCode s.locks.markers + 16 * holderCode s.locks.setup : Nat) ++
    bytesOf 1 (flagBit 0 (linkUp s.port0) + flagBit 1 (linkUp s.port1) + flagBit 2 (linkUp s.port2) : Nat) ++
    bytesOf 1 (portNumber p) ++ bytesOf 2 s.signals.toNat ++ bytesOf 6 s.timebase.toNat

/-- The 70 bytes of READ STATUS (R179, Table 11-7). -/
def statusReport (p : PortId) (s : State) : List Byte :=
  runReport s.slb ++ headsReport s ++ positionReport s ++ tablesReport s ++ storeReport s.pst ++ adviceReport s.adv ++
    portsReport p s

/-! ## READ HEAD STATUS (Table 11-9) -/

/-- Bytes 11 to 13: the previous accepted revolution with its presence. While it is absent no rule states the two bytes of its
number: free value `absentRevolution` (log entry 6). -/
def previousReport (free : Nat) : Option AcceptedRevolution → List Byte
  | some q => bytesOf 2 q.number.toNat ++ [1]
  | none => bytesOf 2 (Config.absentRevolution free).toNat ++ [0]

/-- The 20 bytes of READ HEAD STATUS (R22, Table 11-9). -/
def headReport (h : HeadId) (s : State) : List Byte :=
  let r := s.head h
  bytesOf 1 (headStateCode r.state) ++ bytesOf 1 (rateCode r.rate) ++ bytesOf 1 (rateCode (s.setup.head h).maxRate) ++
    bytesOf 1 r.trainFailures ++ bytesOf 1 (faultCauseCode r.faultCause) ++ bytesOf 4 (r.averagedPeriod.getD 0 : Nat) ++
    bytesOf 1 r.periods.length ++ bytesOf 1 r.rejectionRun ++ previousReport s.freeCount r.previous ++
    bytesOf 1 (flagCode (headPower s h)) ++ bytesOf 1 (lineClassCode (s.scv.line h).cls) ++
    bytesOf 1 (supplyStateCode (s.scv.supply h).state) ++ bytesOf 1 (selectionCode r.selection) ++ bytesOf 1 r.counter ++ [0]

/-- R22: the answer to READ HEAD STATUS; only an absent previous revolution uses a free value. -/
def readHead (h : HeadId) (s : State) : State × Reply :=
  (if (s.head h).previous = none then useFree s else s, { status := .ok, payload := headReport h s })

/-! ## READ SENSE (Table 11-10) -/

/-- The last raw code, 0 before the first conversion. -/
def lastRaw (c : SenseChannel) : Nat := ((c.window.getLast?).map BitVec.toNat).getD 0

/-- The first six bytes of a channel block. -/
def channelReport (avg : Nat) (c : SenseChannel) : List Byte :=
  bytesOf 2 (lastRaw c) ++ bytesOf 2 (c.filtered.getD 0 : Nat) ++ bytesOf 1 avg ++ bytesOf 1 c.window.length

def cantReport (avg : Nat) (m : CantMonitor) : List Byte :=
  channelReport avg m.channel ++ bytesOf 2 m.value ++ bytesOf 1 (cantStatusCode m.status) ++ bytesOf 1 (flagCode m.clamped)

def supplyReport (avg : Nat) (m : SupplyMonitor) : List Byte :=
  channelReport avg m.channel ++ bytesOf 1 (supplyStateCode m.state) ++ bytesOf 1 m.count ++ [0, 0]

/-- A candidate class of none is 255 (R185). -/
def candidateCode : Option LineClass → Nat
  | none => 255
  | some c => lineClassCode c

def lineReport (avg : Nat) (m : LineMonitor) : List Byte :=
  channelReport avg m.channel ++ bytesOf 1 (lineClassCode m.cls) ++ bytesOf 1 (candidateCode m.candidate) ++
    bytesOf 1 m.count ++ [0]

/-- The 50 bytes of READ SENSE (R35, Table 11-10). -/
def senseReport (s : State) : List Byte :=
  cantReport s.setup.avgCant s.scv.cant ++ supplyReport s.setup.avgSupply1 s.scv.supply1 ++
    supplyReport s.setup.avgSupply2 s.scv.supply2 ++ lineReport s.setup.avgLine1 s.scv.line1 ++
    lineReport s.setup.avgLine2 s.scv.line2

/-! ## READ CAPTURES (Table 11-11) -/

/-- A capture record in 16 bytes. -/
def captureBytes (c : Capture) : List Byte :=
  bytesOf 6 c.time.toNat ++ bytesOf 4 c.chainageBefore ++ bytesOf 2 (markerIndexCode c.marker) ++ bytesOf 2 c.correction ++
    bytesOf 1 (captureResultCode c.result) ++ [0]

/-- The records at ages first to first + count − 1 that the log holds (R71). -/
def capturesAt (first count : Nat) (m : MarkerUnit) : List Capture := (m.log.drop first).take count

/-- The payload of READ CAPTURES (R71, Table 11-11). -/
def captureReport (first count : Nat) (s : State) : List Byte :=
  bytesOf 1 s.mku.log.length ++ bytesOf 1 (capturesAt first count s.mku).length ++ bytesOf 4 s.mku.captureTotal.toNat ++
    bytesOf 2 s.mku.suppressed ++ bytesOf 1 (tableStateCode (matchingState s)) ++ bytesOf 1 (flagCode s.mku.suspended) ++
    bytesOf 1 s.mku.missCount ++ bytesOf 2 (markerIndexCode s.mku.nextExpected) ++
    ((capturesAt first count s.mku).map captureBytes).flatten

/-- R71. -/
def readCapturesReply (first count : Nat) (s : State) : Reply :=
  if 15 < first ∨ count = 0 ∨ 16 < count then bare .badValue
  else { status := .ok, payload := captureReport first count s }

/-! ## READ CURSOR (Table 11-4) -/

/-- The 19 bytes of READ CURSOR (R147). -/
def cursorReport (p : PortId) (t : ProfileStore) : List Byte :=
  let c := t.cursor p
  bytesOf 4 c.position.toNat ++ bytesOf 1 (cursorModeCode c.mode) ++ bytesOf 2 c.missed ++ bytesOf 2 (fill t) ++
    bytesOf 4 (oldestSeq t).toNat ++ bytesOf 4 (newestSeq t).toNat ++ bytesOf 2 (availableTo t c)

/-- R147: the report, after which the missed count is cleared. -/
def readCursorOf (p : PortId) (s : State) : State × Reply :=
  (setCursorOf p { s.pst.cursor p with missed := 0 } s, { status := .ok, payload := cursorReport p s.pst })

end Sys2Proof.Machine
end

