-- ==== Sys2Proof/Machine/Ports.lean ====
section
/-! DEFINITION. The Master Ports (chapter 10): the transactions (R168 to R170), the way every request is taken and answered, and
what the requests of the ports, the locks, the Signal Word, the run and the heads do once taken. -/

namespace Sys2Proof.Machine

/-! ## Transactions -/

/-- R168: CS[p] is asserted: the snapshot of the status byte is the first byte clocked out. -/
def beginTransaction (p : PortId) (s : State) : State := s.setPort p { s.port p with sdo := [statusByte s p] }

/-- The request slot is IDLE. -/
def slotIdle (s : State) (p : PortId) : Bool :=
  match (s.port p).slot with
  | .idle => true
  | _ => false

/-- R169: a SEND whose frame passes all five findings. The frame is valid for the link, and in an IDLE slot the request is taken
and carried out; in any other slot it is discarded. -/
def request (p : PortId) (act : State → State) (s : State) : State :=
  let t := validFrame p (beginTransaction p s)
  if slotIdle s p then act t else t

/-- R170: a request that is not served through the Store Arbiter is carried out at once and its answer placed in the slot. -/
def answered (p : PortId) (echo : Byte) (act : State → State × Reply) (s : State) : State :=
  putAnswer p echo (act s).2 (act s).1

/-- A request that is answered at once (R169, R170). -/
def plainRequest (p : PortId) (echo : Byte) (act : State → State × Reply) (s : State) : State :=
  request p (answered p echo act) s

/-- A request that the arbiter serves, unless a finding answers it before the store is asked for (R149, R170). -/
def storeRequest (p : PortId) (echo : Byte) (refusal : State → Option Status) (q : StoreRequest) (s : State) : State :=
  request p (fun t =>
    match refusal t with
    | some st => putAnswer p echo (bare st) t
    | none => askPort p q echo t) s

/-- The answer a refused frame gets in an IDLE slot (R169); a frame that is taken has none. -/
def refusalStatus : Finding → Option Status
  | .frameError => some .frameError
  | .badLengthFrame => some .badLength
  | .unknownCommand => some .unknownCommand
  | .badLengthCommand => some .badLength
  | .taken => none

/-- R169: a SEND frame that its judging refuses. A frame that would be taken is no such event and changes nothing (log
entry 7). -/
def refuseFrame (p : PortId) (frame : List Byte) (s : State) : State :=
  match refusalStatus (judgeFrame frame) with
  | none => s
  | some st =>
    let a := beginTransaction p s
    let b := if findingValid (judgeFrame frame) then validFrame p a else a
    if slotIdle s p then putAnswer p (refusalEcho frame) (bare st) b else b

/-- The answer a FETCH finds in a slot: the held one, or NO_ANSWER (R170). -/
def fetchedAnswer : Slot → Answer
  | .ready a => a
  | _ => { status := .noAnswer, echo := 0, payload := [] }

/-- R170: a FETCH that clocks out so many bytes of the answer. A held answer clocked out to its last byte is removed. -/
def fetchAnswer (p : PortId) (clocked : Nat) (s : State) : State :=
  let frame := answerFrame (fetchedAnswer (s.port p).slot)
  let t := s.setPort p { s.port p with sdo := statusByte s p :: frame.take clocked }
  if ready s p && decide (frame.length ≤ clocked) then setSlot p .idle t else t

/-! ## Locks, signals and events -/

/-- R173. -/
def takeLockRequest (p : PortId) (lock : Byte) (s : State) : State × Reply :=
  match lockOf lock with
  | none => (s, bare .badValue)
  | some k => takeLockOf p k s

/-- R173. -/
def giveLockRequest (p : PortId) (lock : Byte) (s : State) : State × Reply :=
  match lockOf lock with
  | none => (s, bare .badValue)
  | some k => giveLockOf p k s

/-- R175: the Signal Word takes a value, which is the answer. -/
def setSignalWord (w : SignalMask) (s : State) : State × Reply :=
  ({ s with signals := w }, { status := .ok, payload := bytesOf 2 w.toNat })

/-- R175. -/
def signalEnableRequest (p : PortId) (mask : SignalMask) (s : State) : State × Reply :=
  (s.setPort p { s.port p with signalEnable := mask }, bare .ok)

/-- R176: the latch is returned and then emptied. -/
def readEventsRequest (p : PortId) (s : State) : State × Reply :=
  (s.setPort p { s.port p with latch := 0 }, { status := .ok, payload := bytesOf 4 (s.port p).latch.toNat })

/-- R176. -/
def eventEnableRequest (p : PortId) (mask : EventMask) (s : State) : State × Reply :=
  (s.setPort p { s.port p with eventEnable := mask }, bare .ok)

/-! ## Heads -/

/-- A request that names a head: BAD_VALUE for a head number other than 1 or 2 (R20 to R23). -/
def headRequest (head : Byte) (act : HeadId → State → State × Reply) (s : State) : State × Reply :=
  match headOf head with
  | none => (s, bare .badValue)
  | some h => act h s

/-- R20. -/
def restartRequest (h : HeadId) (s : State) : State × Reply :=
  if (s.head h).state = .faulted ∧ (s.scv.line h).cls ≠ .normal then (s, bare .lineAbnormal)
  else (restartHead h s, bare .ok)

/-- R21. -/
def powerOffRequest (h : HeadId) (s : State) : State × Reply := (enterOff h s, bare .ok)

/-- R23. -/
def selectCounterRequest (selection : Byte) (h : HeadId) (s : State) : State × Reply :=
  match selectionOf selection with
  | none => (s, bare .badValue)
  | some c => (s.setHead h { s.head h with selection := c, counter := 0 }, bare .ok)

/-- R23. -/
def clearCounterRequest (h : HeadId) (s : State) : State × Reply :=
  (s.setHead h { s.head h with counter := 0 }, bare .ok)

/-! ## Run and position -/

/-- A request that needs the SETUP lock: LOCK_REQUIRED and no effect from any other port. -/
def needsSetup (p : PortId) (act : State → State × Reply) (s : State) : State × Reply :=
  if holds s p .setup then act s else (s, bare .lockRequired)

/-- R53: SET CHAINAGE from the holder of the SETUP lock. -/
def setChainageRequest (mm : BitVec 32) (s : State) : State × Reply :=
  if Config.maxMm < mm.toNat then (setChainageTo Config.maxMm s, bare .clamped) else (setChainageTo mm.toNat s, bare .ok)

/-- R74: what START RUN sets before the run state changes. -/
def beginRun (s : State) : State :=
  { s with slb := { s.slb with
      runNumber := s.slb.runNumber + 1, segment := 0, direction := s.chu.direction, lastOpened := none, lastClosed := none,
      carriedSkipped := 0, carriedOverruns := 0, stale1 := false, stale2 := false } }

/-- R74: START RUN from the holder of the SETUP lock. -/
def startRunRequest (s : State) : State × Reply :=
  if s.slb.run ≠ .idle then (s, bare .runActive)
  else if s.chu.quality = .lost ∨ (s.setup.head1.enable = false ∧ s.setup.head2.enable = false) then (s, bare .notReady)
  else (setRun .running (beginRun s), bare .ok)

/-- R75. -/
def stopRunRequest (s : State) : State × Reply :=
  (if s.slb.run = .running then endRun (flush s) else s, bare .ok)

/-- R77: the queue is discarded with the carried counts and the stale marks. -/
def discardQueue (s : State) : State :=
  { s with slb := { s.slb with
      pendingSlices := [], openSlices := [], carriedSkipped := 0, carriedOverruns := 0, stale1 := false, stale2 := false } }

/-- R77. -/
def abortRunRequest (s : State) : State × Reply :=
  (if s.slb.run = .idle then s else setRun .idle (abandonCommit (discardQueue s)), bare .ok)

/-- R158. -/
def clearStopRequest (p : PortId) (s : State) : State × Reply := (clearStopLatch p s, bare .ok)

/-! ## Store -/

/-- R143: the count of a READ BLOCK. -/
def countRefused (count : Byte) : Option Status := if count.toNat = 0 ∨ 4 < count.toNat then some .badValue else none

/-- R148: CLEAR STORE needs the SETUP lock and an IDLE run; both are judged when the request is taken (log entry 16). -/
def clearRefused (p : PortId) (s : State) : Option Status :=
  if holds s p .setup = false then some .lockRequired else if s.slb.run ≠ .idle then some .runActive else none

/-- R146: the cursor takes the mode; a change of mode is a retry event. -/
def changeMode (p : PortId) (m : CursorMode) (s : State) : State :=
  let t := setCursorOf p { s.pst.cursor p with mode := m } s
  if (s.pst.cursor p).mode = m then t else retryEvent t

/-- R146. -/
def cursorModeRequest (p : PortId) (mode : Byte) (s : State) : State × Reply :=
  match cursorModeOf mode with
  | none => (s, bare .badValue)
  | some m => (changeMode p m s, bare .ok)

/-! ## Tables -/

/-- TABLE WRITE: entry bytes beside 2 to 14 make a payload length the command does not take (R169). -/
def tableWriteRequest (p : PortId) (mode : Byte) (entry : List Byte) (s : State) : State × Reply :=
  if 2 ≤ entry.length ∧ entry.length ≤ 14 then writeTable p mode entry s else (s, bare .badLength)

end Sys2Proof.Machine
end

