-- ==== Sys2Proof/Machine/Resets.lean ====
section
/-! DEFINITION. The resets: PORT RESET (R183), SOFT RESET (R181) and the device reset (R180). -/

namespace Sys2Proof.Machine

/-! ## PORT RESET (R183) -/

/-- The port's own items: latch, enables and table pointer, with the slot emptied of its request or answer. -/
def clearPort (m : MasterPort) : MasterPort :=
  { m with slot := .idle, latch := 0, eventEnable := 0, signalEnable := 0, table := .setup, index := 0 }

/-- R183: a request that holds the store completes its work on it first (R151) and its answer is discarded with the slot, a waiting
request is withdrawn, the cursor is set (R152) and the locks are freed by force (R174) once the latch is empty. -/
def resetPort (p : PortId) (s : State) : State :=
  let w := finishGrant p s
  let a := w.setPort p (clearPort (w.port p))
  putAnswer p 0x0E (bare .ok) (forcedRelease p (resetCursor p a))

/-! ## SOFT RESET (R181) -/

/-- R24 with the setup kept: the head is OFF at HEAD_MAX_RATE[h]. -/
def softHead (u : HeadSetup) : HeadReceiver := { HeadReceiver.reset with rate := u.maxRate }

/-- R73: the marker table is kept, and an invalid one under a held lock is suspended. -/
def softMarkers (s : State) : MarkerUnit :=
  { MarkerUnit.reset with
    table := s.mku.table,
    suspended := s.mku.suspended || (s.locks.markers.isSome && (markerTableFault s.mku).isSome) }

/-- R134: the tables are kept, and an invalid zone list under a held lock is suspended. -/
def softEnvelope (s : State) : EnvelopeTables :=
  { s.env with suspended := s.env.suspended || (s.locks.envelope.isSome && (zoneListFault s.env).isSome) }

/-- R181: the link is kept and the timer of an UP link restarts; everything else of the port is emptied. -/
def softPort (m : MasterPort) : MasterPort :=
  { clearPort m with link := if linkUp m then .up 0 else .down }

/-- R181: the soft reset values of every block; the setup and the timebase are kept. -/
def softValues (s : State) : State :=
  { s with
    windowTime := 0, conversionTime := 0, nextChannel := .cant, head1 := softHead s.setup.head1,
    head2 := softHead s.setup.head2, scv := .reset,
    chu := .reset s.chu.left.phase s.chu.right.phase, mku := softMarkers s, env := softEnvelope s, slb := .reset,
    pst := .reset, adv := .reset s.setup.vCfg, port0 := softPort s.port0, port1 := softPort s.port1,
    port2 := softPort s.port2, locks := .reset, signals := 0 }

/-- R24: a head whose HEAD_ENABLE[h] is on enters POWERING, with HEAD_STATE in the latches as the reset left them. -/
def powerIfEnabled (h : HeadId) (s : State) : State := if (s.setup.head h).enable then enterPowering h s else s

/-- R181: SOFT RESET from the holder of the SETUP lock. -/
def softResetAll (s : State) : State := powerIfEnabled .h2 (powerIfEnabled .h1 (softValues s))

/-- R181. -/
def softResetRequest (p : PortId) (s : State) : State × Reply := needsSetup p (fun t => (softResetAll t, bare .ok)) s

/-! ## Device reset (R180) -/

/-- R180, with the encoder phases as they stand at its end (R56). The queue and the count of free values are the model's own and
stay (log entry 23). -/
def resetDevice (left right : Phase) (s : State) : State :=
  { State.resetWith left right with pending := s.pending, freeCount := s.freeCount }

end Sys2Proof.Machine
end

