-- ==== Sys2Proof/Machine/Tick.lean ====
section
/-! DEFINITION. The clock of the part: what one microsecond does while no command waits (log entry 1). The timebase, the window and
the conversion in progress, the running head timers and the link timers advance, and what falls due is put on the queue. -/

namespace Sys2Proof.Machine

/-- One µs of a timer; a stopped or expired timer stands. -/
def countDown : Option Nat → Option Nat
  | some (n + 1) => some n
  | t => t

/-- The timer reaches 0 with the coming µs. -/
def fallsDue (t : Option Nat) : Bool := decide (t = some 1)

/-- One µs of the three timers of a head (R6). -/
def tickHead (r : HeadReceiver) : HeadReceiver :=
  { r with settleTimer := countDown r.settleTimer, attemptTimer := countDown r.attemptTimer, watchdog := countDown r.watchdog }

/-- One µs of a link (R171). -/
def tickLink : Link → Link
  | .down => .down
  | .up elapsed => .up (elapsed + 1)

def tickPort (m : MasterPort) : MasterPort := { m with link := tickLink m.link }

/-- The window in progress ends with the coming µs (section 3.3). -/
def windowEnds (s : State) : Bool := decide (Config.windowUs ≤ s.windowTime + 1)

/-- A conversion completes with the coming µs: conversions follow one another 400 µs apart (R25). -/
def conversionDue (s : State) : Bool := decide (Config.conversionUs ≤ s.conversionTime + 1)

/-- One µs of every clock. The radius writes of the moment that ends are past (log entry 26). -/
def advanceClocks (s : State) : State :=
  { s with timebase := s.timebase + 1, windowTime := if windowEnds s then 0 else s.windowTime + 1,
           conversionTime := if conversionDue s then 0 else s.conversionTime + 1,
           freeCount := if conversionDue s then s.freeCount + 1 else s.freeCount, head1 := tickHead s.head1,
           head2 := tickHead s.head2, port0 := tickPort s.port0, port1 := tickPort s.port1, port2 := tickPort s.port2,
           slb := { s.slb with radiusWrites := [] } }

/-- One command if a condition holds. -/
def dueIf (b : Bool) (c : Instr) : List Instr := if b then [c] else []

/-- The timer events of a head that fall due (R8, R10, R11). -/
def dueOfHead (s : State) (h : HeadId) : List Instr :=
  dueIf (fallsDue (s.head h).settleTimer) (.settleTimerExpiry h) ++
    dueIf (fallsDue (s.head h).attemptTimer) (.attemptTimerExpiry h) ++
    dueIf (fallsDue (s.head h).watchdog) (.revolutionWatchdogExpiry h)

/-- The time since the last valid frame reaches LINK_TIMEOUT[p] × 10 ms with the coming µs, or has reached it (R171). -/
def linkDue (s : State) (p : PortId) : Bool :=
  match (s.port p).link with
  | .down => false
  | .up elapsed => decide (s.setup.linkTimeout p ≠ 0) && decide (s.setup.linkTimeout p * Config.linkUnitUs ≤ elapsed + 1)

/-- The step that the holder of the store owes: the completion of a commit's hold, or the work of a port that was granted the released
store (R149, R150). -/
def dueOfStore (s : State) : List Instr :=
  match s.pst.holder with
  | .none => []
  | .commitPath => [.commit]
  | .port _ => [.storeGrant]

/-- What falls due with the coming µs. A conversion is of the next channel in the order of R25; the code at its input is a free value
(`inputCode`, log entry 29). -/
def dueEvents (s : State) : List Instr :=
  dueOfHead s .h1 ++ dueOfHead s .h2 ++ dueIf (windowEnds s) .windowEnd ++
    dueIf (conversionDue s) (.conversion s.nextChannel (Config.inputCode s.freeCount)) ++
    dueIf (linkDue s .p0) (.linkTimeout .p0) ++ dueIf (linkDue s .p1) (.linkTimeout .p1) ++
    dueIf (linkDue s .p2) (.linkTimeout .p2) ++ dueOfStore s

/-- One event more falls due: it takes a place in the queue, which is free among several (free value `dueSlot`, log entry 5). -/
def placeDue (s : State) (c : Instr) : State :=
  match s.pending with
  | [] => { s with pending := [c] }
  | q => useFree { s with pending := q.insertIdx (Config.dueSlot s.freeCount % (q.length + 1)) c }

/-- One µs of the part while no command waits. -/
def tick (s : State) : State := (dueEvents s).foldl placeDue (advanceClocks s)

end Sys2Proof.Machine
end

