-- ==== Sys2Proof/Machine/HeadLink.lean ====
section
/-! DEFINITION. The head link (chapter 1): the four frames of a head, a frame that fails its check, and the head timers. -/

namespace Sys2Proof.Machine

/-- TRAIN_ACK (R2). -/
def execTrainAck (h : HeadId) (rate : Byte) (s : State) : Result :=
  .next (takeTrainAck h rate s)

/-- REV_START (R3). -/
def execRevStart (h : HeadId) (number : BitVec 16) (rate : Byte) (s : State) : Result :=
  .next (takeRevStart h number rate s)

/-- SAMPLE_BLOCK (R4). -/
def execSampleBlock (h : HeadId) (block : Byte) (samples : Vector Sample 64) (s : State) : Result :=
  .next (takeSampleBlock h block samples s)

/-- REV_END (R5). -/
def execRevEnd (h : HeadId) (number count : BitVec 16) (s : State) : Result :=
  .next (takeRevEnd h number count s)

/-- FRAME_FAILS_CHECK (R1). A frame that passes its check is no such event and changes nothing (log entry 7). -/
def execFrameFailsCheck (h : HeadId) (frame : List Byte) (s : State) : Result :=
  .next (if headFramePasses frame then s else dropFrame h s)

/-- SETTLE_TIMER_EXPIRY (R8). -/
def execSettleTimerExpiry (h : HeadId) (s : State) : Result :=
  .next (settleExpires h s)

/-- ATTEMPT_TIMER_EXPIRY (R10). -/
def execAttemptTimerExpiry (h : HeadId) (s : State) : Result :=
  .next (attemptExpires h s)

/-- REVOLUTION_WATCHDOG_EXPIRY (R11). -/
def execRevolutionWatchdogExpiry (h : HeadId) (s : State) : Result :=
  .next (watchdogExpires h s)

end Sys2Proof.Machine
end

