-- ==== Sys2Proof/Machine/HeadRequests.lean ====
section
/-! DEFINITION. The requests about the heads and the sense inputs (sections 1.6 and 2.7). -/

namespace Sys2Proof.Machine

/-- HEAD_RESTART (R20). -/
def execHeadRestart (p : PortId) (head : Byte) (s : State) : Result :=
  .next (plainRequest p 0x30 (headRequest head restartRequest) s)

/-- HEAD_POWER_OFF (R21). -/
def execHeadPowerOff (p : PortId) (head : Byte) (s : State) : Result :=
  .next (plainRequest p 0x31 (headRequest head powerOffRequest) s)

/-- READ_HEAD_STATUS (R22). -/
def execReadHeadStatus (p : PortId) (head : Byte) (s : State) : Result :=
  .next (plainRequest p 0x32 (headRequest head readHead) s)

/-- SELECT_HEAD_COUNTER (R23). -/
def execSelectHeadCounter (p : PortId) (head selection : Byte) (s : State) : Result :=
  .next (plainRequest p 0x33 (headRequest head (selectCounterRequest selection)) s)

/-- CLEAR_HEAD_COUNTER (R23). -/
def execClearHeadCounter (p : PortId) (head : Byte) (s : State) : Result :=
  .next (plainRequest p 0x34 (headRequest head clearCounterRequest) s)

/-- READ_SENSE (R35). -/
def execReadSense (p : PortId) (s : State) : Result :=
  .next (plainRequest p 0x38 (fun t => (t, { status := .ok, payload := senseReport t })) s)

end Sys2Proof.Machine
end

