-- ==== Sys2Proof/Machine/Motion.lean ====
section
/-! DEFINITION. What reaches the part from the trolley (chapters 2 to 4): conversions, encoder transitions, window ends and
marker edges, with SET CHAINAGE and READ CAPTURES. -/

namespace Sys2Proof.Machine

/-- CONVERSION (R25). One whose channel or moment is not the schedule's is carried out as it is commanded (DESIGN CHOICE, log
entry 7). -/
def execConversion (ch : Channel) (raw : BitVec 12) (s : State) : Result :=
  .next (takeConversion ch raw s)

/-- ENCODER_TRANSITION (R37). -/
def execEncoderTransition (side : Side) (phase : Phase) (s : State) : Result :=
  .next (takeTransition side phase s)

/-- WINDOW_END (R39); the next window begins. One that is taken before 10 ms of its window have passed, as one that waits on the queue
behind a SOFT RESET of the same microsecond (R56), is carried out and restarts the window (DESIGN CHOICE, log entry 7). -/
def execWindowEnd (s : State) : Result :=
  .next (takeWindowEnd { s with windowTime := 0 })

/-- MARK_EDGE (R62). -/
def execMarkEdge (s : State) : Result :=
  .next (takeEdge s)

/-- SET_CHAINAGE (R53). -/
def execSetChainage (p : PortId) (mm : BitVec 32) (s : State) : Result :=
  .next (plainRequest p 0x13 (needsSetup p (setChainageRequest mm)) s)

/-- READ_CAPTURES (R71). -/
def execReadCaptures (p : PortId) (first count : Byte) (s : State) : Result :=
  .next (plainRequest p 0x39 (fun t => (t, readCapturesReply first.toNat count.toNat t)) s)

end Sys2Proof.Machine
end

