-- ==== Sys2Proof/Machine/PortRequests.lean ====
section
/-! DEFINITION. The transactions and requests of the ports themselves (chapter 10): polls, fetches, refused frames, links,
locks, signals, events and READ STATUS. -/

namespace Sys2Proof.Machine

/-- STATUS_POLL (R168). -/
def execStatusPoll (p : PortId) (s : State) : Result :=
  .next (beginTransaction p s)

/-- FETCH (R170). -/
def execFetch (p : PortId) (clocked : Nat) (s : State) : Result :=
  .next (fetchAnswer p clocked s)

/-- FRAMING_REFUSAL (R169). -/
def execFramingRefusal (p : PortId) (frame : List Byte) (s : State) : Result :=
  .next (refuseFrame p frame s)

/-- LINK_TIMEOUT (R171). -/
def execLinkTimeout (p : PortId) (s : State) : Result :=
  .next (linkExpires p s)

/-- TAKE_LOCK (R173). -/
def execTakeLock (p : PortId) (lock : Byte) (s : State) : Result :=
  .next (plainRequest p 0x08 (takeLockRequest p lock) s)

/-- GIVE_LOCK (R173). -/
def execGiveLock (p : PortId) (lock : Byte) (s : State) : Result :=
  .next (plainRequest p 0x09 (giveLockRequest p lock) s)

/-- SET_SIGNALS (R175). -/
def execSetSignals (p : PortId) (mask : SignalMask) (s : State) : Result :=
  .next (plainRequest p 0x04 (fun t => setSignalWord (t.signals ||| mask) t) s)

/-- CLEAR_SIGNALS (R175). -/
def execClearSignals (p : PortId) (mask : SignalMask) (s : State) : Result :=
  .next (plainRequest p 0x05 (fun t => setSignalWord (t.signals &&& ~~~mask) t) s)

/-- SET_SIGNAL_ENABLE (R175). -/
def execSetSignalEnable (p : PortId) (mask : SignalMask) (s : State) : Result :=
  .next (plainRequest p 0x06 (signalEnableRequest p mask) s)

/-- READ_EVENTS (R176). -/
def execReadEvents (p : PortId) (s : State) : Result :=
  .next (plainRequest p 0x02 (readEventsRequest p) s)

/-- SET_EVENT_ENABLE (R176). -/
def execSetEventEnable (p : PortId) (mask : EventMask) (s : State) : Result :=
  .next (plainRequest p 0x03 (eventEnableRequest p mask) s)

/-- READ_STATUS (R179). -/
def execReadStatus (p : PortId) (s : State) : Result :=
  .next (plainRequest p 0x01 (fun t => (t, { status := .ok, payload := statusReport p t })) s)

/-- PORT_RESET (R183), taken in every slot state (R169). -/
def execPortReset (p : PortId) (s : State) : Result :=
  .next (resetPort p (validFrame p (beginTransaction p s)))

/-- SOFT_RESET (R181). -/
def execSoftReset (p : PortId) (s : State) : Result :=
  .next (plainRequest p 0x0F (softResetRequest p) s)

/-- DEVICE_RESET (R180). -/
def execDeviceReset (left right : Phase) (s : State) : Result :=
  .next (resetDevice left right s)

end Sys2Proof.Machine
end

