-- ==== Sys2Proof/Machine/RunRequests.lean ====
section
/-! DEFINITION. The requests that steer the run and the stop latch (sections 5.3 and 9.2). -/

namespace Sys2Proof.Machine

/-- START_RUN (R74). -/
def execStartRun (p : PortId) (s : State) : Result :=
  .next (plainRequest p 0x10 (needsSetup p startRunRequest) s)

/-- STOP_RUN (R75). -/
def execStopRun (p : PortId) (s : State) : Result :=
  .next (plainRequest p 0x11 stopRunRequest s)

/-- ABORT_RUN (R77). -/
def execAbortRun (p : PortId) (s : State) : Result :=
  .next (plainRequest p 0x12 abortRunRequest s)

/-- CLEAR_STOP (R158). -/
def execClearStop (p : PortId) (s : State) : Result :=
  .next (plainRequest p 0x14 (clearStopRequest p) s)

end Sys2Proof.Machine
end

