-- ==== Sys2Proof/Machine/StoreRequests.lean ====
section
/-! DEFINITION. The Profile Store (chapter 8): the steps of the Store Arbiter and the requests about records and cursors. -/

namespace Sys2Proof.Machine

/-- COMMIT (R137 to R140). -/
def execCommit (s : State) : Result :=
  .next (completeCommit s)

/-- STORE_GRANT (R149). -/
def execStoreGrant (s : State) : Result :=
  .next (grantWaiting s)

/-- READ_NEXT (R142). -/
def execReadNext (p : PortId) (s : State) : Result :=
  .next (storeRequest p 0x20 (fun _ => none) .readNext s)

/-- READ_BLOCK (R143). -/
def execReadBlock (p : PortId) (count : Byte) (s : State) : Result :=
  .next (storeRequest p 0x21 (fun _ => countRefused count) (.readBlock count.toNat) s)

/-- PEEK_RECORD (R144). -/
def execPeekRecord (p : PortId) (seq : SeqNo) (s : State) : Result :=
  .next (storeRequest p 0x22 (fun _ => none) (.peek seq) s)

/-- SET_CURSOR (R145). -/
def execSetCursor (p : PortId) (selector : Byte) (seq : SeqNo) (s : State) : Result :=
  .next <|
    match cursorTargetOf selector seq with
    | none => plainRequest p 0x23 (fun t => (t, bare .badValue)) s
    | some target => storeRequest p 0x23 (fun _ => none) (.setCursor target) s

/-- SET_CURSOR_MODE (R146). -/
def execSetCursorMode (p : PortId) (mode : Byte) (s : State) : Result :=
  .next (plainRequest p 0x24 (cursorModeRequest p mode) s)

/-- READ_CURSOR (R147). -/
def execReadCursor (p : PortId) (s : State) : Result :=
  .next (plainRequest p 0x25 (readCursorOf p) s)

/-- CLEAR_STORE (R148). -/
def execClearStore (p : PortId) (s : State) : Result :=
  .next (storeRequest p 0x26 (clearRefused p) .clear s)

end Sys2Proof.Machine
end

