-- ==== Sys2Proof/Machine/TableRequests.lean ====
section
/-! DEFINITION. Table access (section 10.7). Every TABLE WRITE is one request frame, and the pointer of its port says which
entry it writes and so which rule owns its effects (log entry 11): the rows of TABLE WRITE have the same meaning. -/

namespace Sys2Proof.Machine

/-- TABLE_POINT (R178). -/
def execTablePoint (p : PortId) (table : Byte) (index : BitVec 16) (s : State) : Result :=
  .next (plainRequest p 0x0A (pointTable p table index) s)

/-- TABLE_READ (R178). -/
def execTableRead (p : PortId) (mode : Byte) (s : State) : Result :=
  .next (plainRequest p 0x0B (readTable p mode) s)

/-- TABLE_WRITE (R178). -/
def execTableWrite (p : PortId) (mode : Byte) (entry : List Byte) (s : State) : Result :=
  .next (plainRequest p 0x0C (tableWriteRequest p mode entry) s)

/-- TABLE_WRITE_HEAD_ENABLE (R7). -/
def execTableWriteHeadEnable (p : PortId) (mode : Byte) (entry : List Byte) (s : State) : Result :=
  .next (plainRequest p 0x0C (tableWriteRequest p mode entry) s)

/-- TABLE_WRITE_ENC_K (R40). -/
def execTableWriteEncK (p : PortId) (mode : Byte) (entry : List Byte) (s : State) : Result :=
  .next (plainRequest p 0x0C (tableWriteRequest p mode entry) s)

/-- TABLE_WRITE_LINK_TIMEOUT (R171). -/
def execTableWriteLinkTimeout (p : PortId) (mode : Byte) (entry : List Byte) (s : State) : Result :=
  .next (plainRequest p 0x0C (tableWriteRequest p mode entry) s)

/-- TABLE_WRITE_MARKERS (R57, R58). -/
def execTableWriteMarkers (p : PortId) (mode : Byte) (entry : List Byte) (s : State) : Result :=
  .next (plainRequest p 0x0C (tableWriteRequest p mode entry) s)

/-- TABLE_WRITE_ZONES (R124). -/
def execTableWriteZones (p : PortId) (mode : Byte) (entry : List Byte) (s : State) : Result :=
  .next (plainRequest p 0x0C (tableWriteRequest p mode entry) s)

/-- TABLE_WRITE_PROFILES (R122). -/
def execTableWriteProfiles (p : PortId) (mode : Byte) (entry : List Byte) (s : State) : Result :=
  .next (plainRequest p 0x0C (tableWriteRequest p mode entry) s)

/-- TABLE_WRITE_ADVICE_INPUT (R156). -/
def execTableWriteAdviceInput (p : PortId) (mode : Byte) (entry : List Byte) (s : State) : Result :=
  .next (plainRequest p 0x0C (tableWriteRequest p mode entry) s)

end Sys2Proof.Machine
end

