-- ==== Sys2Proof/Machine/Dispatch.lean ====
section
/-! DEFINITION. One arm for each command: `exec` calls the meaning of the command's row. -/

namespace Sys2Proof.Machine

def exec (i : Instr) (s : State) : Host.Outcome State Fault Refusal :=
  match i with
  | .trainAck h rate => Sys2Proof.Machine.execTrainAck h rate s
  | .revStart h number rate => Sys2Proof.Machine.execRevStart h number rate s
  | .sampleBlock h block samples => Sys2Proof.Machine.execSampleBlock h block samples s
  | .revEnd h number count => Sys2Proof.Machine.execRevEnd h number count s
  | .settleTimerExpiry h => Sys2Proof.Machine.execSettleTimerExpiry h s
  | .attemptTimerExpiry h => Sys2Proof.Machine.execAttemptTimerExpiry h s
  | .revolutionWatchdogExpiry h => Sys2Proof.Machine.execRevolutionWatchdogExpiry h s
  | .headRestart p head => Sys2Proof.Machine.execHeadRestart p head s
  | .headPowerOff p head => Sys2Proof.Machine.execHeadPowerOff p head s
  | .readHeadStatus p head => Sys2Proof.Machine.execReadHeadStatus p head s
  | .selectHeadCounter p head selection => Sys2Proof.Machine.execSelectHeadCounter p head selection s
  | .clearHeadCounter p head => Sys2Proof.Machine.execClearHeadCounter p head s
  | .conversion ch raw => Sys2Proof.Machine.execConversion ch raw s
  | .readSense p => Sys2Proof.Machine.execReadSense p s
  | .encoderTransition side phase => Sys2Proof.Machine.execEncoderTransition side phase s
  | .windowEnd => Sys2Proof.Machine.execWindowEnd s
  | .setChainage p mm => Sys2Proof.Machine.execSetChainage p mm s
  | .markEdge => Sys2Proof.Machine.execMarkEdge s
  | .readCaptures p first count => Sys2Proof.Machine.execReadCaptures p first count s
  | .startRun p => Sys2Proof.Machine.execStartRun p s
  | .stopRun p => Sys2Proof.Machine.execStopRun p s
  | .abortRun p => Sys2Proof.Machine.execAbortRun p s
  | .commit => Sys2Proof.Machine.execCommit s
  | .storeGrant => Sys2Proof.Machine.execStoreGrant s
  | .readNext p => Sys2Proof.Machine.execReadNext p s
  | .readBlock p count => Sys2Proof.Machine.execReadBlock p count s
  | .peekRecord p seq => Sys2Proof.Machine.execPeekRecord p seq s
  | .setCursor p selector seq => Sys2Proof.Machine.execSetCursor p selector seq s
  | .setCursorMode p mode => Sys2Proof.Machine.execSetCursorMode p mode s
  | .readCursor p => Sys2Proof.Machine.execReadCursor p s
  | .clearStore p => Sys2Proof.Machine.execClearStore p s
  | .clearStop p => Sys2Proof.Machine.execClearStop p s
  | .statusPoll p => Sys2Proof.Machine.execStatusPoll p s
  | .fetch p clocked => Sys2Proof.Machine.execFetch p clocked s
  | .linkTimeout p => Sys2Proof.Machine.execLinkTimeout p s
  | .takeLock p lock => Sys2Proof.Machine.execTakeLock p lock s
  | .giveLock p lock => Sys2Proof.Machine.execGiveLock p lock s
  | .setSignals p mask => Sys2Proof.Machine.execSetSignals p mask s
  | .clearSignals p mask => Sys2Proof.Machine.execClearSignals p mask s
  | .setSignalEnable p mask => Sys2Proof.Machine.execSetSignalEnable p mask s
  | .readEvents p => Sys2Proof.Machine.execReadEvents p s
  | .setEventEnable p mask => Sys2Proof.Machine.execSetEventEnable p mask s
  | .tablePoint p table index => Sys2Proof.Machine.execTablePoint p table index s
  | .tableRead p mode => Sys2Proof.Machine.execTableRead p mode s
  | .tableWrite p mode entry => Sys2Proof.Machine.execTableWrite p mode entry s
  | .tableWriteHeadEnable p mode entry => Sys2Proof.Machine.execTableWriteHeadEnable p mode entry s
  | .tableWriteEncK p mode entry => Sys2Proof.Machine.execTableWriteEncK p mode entry s
  | .tableWriteLinkTimeout p mode entry => Sys2Proof.Machine.execTableWriteLinkTimeout p mode entry s
  | .tableWriteMarkers p mode entry => Sys2Proof.Machine.execTableWriteMarkers p mode entry s
  | .tableWriteZones p mode entry => Sys2Proof.Machine.execTableWriteZones p mode entry s
  | .tableWriteProfiles p mode entry => Sys2Proof.Machine.execTableWriteProfiles p mode entry s
  | .readStatus p => Sys2Proof.Machine.execReadStatus p s
  | .portReset p => Sys2Proof.Machine.execPortReset p s
  | .softReset p => Sys2Proof.Machine.execSoftReset p s
  | .deviceReset left right => Sys2Proof.Machine.execDeviceReset left right s
  | .frameFailsCheck h frame => Sys2Proof.Machine.execFrameFailsCheck h frame s
  | .framingRefusal p frame => Sys2Proof.Machine.execFramingRefusal p frame s
  | .tableWriteAdviceInput p mode entry => Sys2Proof.Machine.execTableWriteAdviceInput p mode entry s

end Sys2Proof.Machine
end

