-- ==== Sys2Proof/Safety.lean ====
section
/-! DEFINITION. What is true of the part between two commands, in the terms that statements use: the sound states of each block, and the
shape of a request's answer. -/

namespace Sys2Proof.Machine

/-! ## A request and its answer -/

/-- The state right after a frame that is valid for the link and before anything else: the status byte as it stood has been clocked
out and the link is UP with its timer restarted (R168, R169, R171). It is also all that a frame does in a busy slot. -/
def afterFrame (p : PortId) (s : State) : State :=
  s.setPort p { s.port p with sdo := [statusByte s p], link := .up 0 }

/-- The state with an answer in the slot of port p (R170). -/
def withAnswer (p : PortId) (st : Status) (echo : Byte) (payload : List Byte) (s : State) : State :=
  setSlot p (.ready { status := st, echo := echo, payload := payload }) s

/-- The state after a request from an IDLE slot that changes nothing but its answer. -/
def onlyAnswer (p : PortId) (st : Status) (echo : Byte) (payload : List Byte) (s : State) : State :=
  withAnswer p st echo payload (afterFrame p s)

/-- A head that has had one event of a class: its counter rises by one, saturating at 255, while that class is selected (R23). -/
def counted (c : CounterClass) (r : HeadReceiver) : HeadReceiver :=
  if r.selection = c then { r with counter := min 255 (r.counter + 1) } else r

/-- The head in a state with that state's timer running and the others stopped (R6, Table 1-9). -/
def inState (dest : HeadState) (r : HeadReceiver) : HeadReceiver :=
  { r with
    state := dest, settleTimer := if dest = .powering then some 200000 else none,
    attemptTimer := if dest = .training then some 50000 else none,
    watchdog := if dest = .acquiring ∨ dest = .locked then some 40000 else none }

/-- What the exit of head h from LOCKED leads to, once the head has left it (R94, R156): the advice is evaluated, and in RUNNING the
open slices are flushed when the other head is not LOCKED, and the close test is made when it is. -/
def afterExit (h : HeadId) (s : State) : State :=
  let t := evaluateAdvice s
  if t.slb.run = .running then (if (t.head (otherHead h)).state = .locked then closeTest t else flush t) else t

/-- The rows of the opcode table that are a TABLE WRITE, for one frame: the pointer of the port tells them apart (log entry 11). -/
def tableWrites (p : PortId) (mode : Byte) (entry : List Byte) : List Instr :=
  [.tableWrite p mode entry, .tableWriteHeadEnable p mode entry, .tableWriteEncK p mode entry,
    .tableWriteLinkTimeout p mode entry, .tableWriteMarkers p mode entry, .tableWriteZones p mode entry,
    .tableWriteProfiles p mode entry, .tableWriteAdviceInput p mode entry]

/-- The command that the frame of a request reads as: itself, or the plain row for a TABLE WRITE (log entry 11). -/
def readsAs : Instr → Instr
  | .tableWriteHeadEnable p m e => .tableWrite p m e
  | .tableWriteEncK p m e => .tableWrite p m e
  | .tableWriteLinkTimeout p m e => .tableWrite p m e
  | .tableWriteMarkers p m e => .tableWrite p m e
  | .tableWriteZones p m e => .tableWrite p m e
  | .tableWriteProfiles p m e => .tableWrite p m e
  | .tableWriteAdviceInput p m e => .tableWrite p m e
  | i => i

/-! ## Invariants, block by block -/

/-- R172: a port whose link is DOWN holds no lock. -/
def locksUp (s : State) : Prop := ∀ k p, s.locks.holder k = some p → linkUp (s.port p) = true

/-- R135, R138: the store holds at most 2048 records of 480 bytes, and every cursor stands within the store. -/
def storeSound (t : ProfileStore) : Prop :=
  fill t ≤ Config.storeCapacity ∧ (∀ r ∈ t.records, r.length = 480) ∧ ∀ p, seqOffset t (t.cursor p).position ≤ fill t

/-- The open slices stand along the segment direction, rearmost first, each of that direction, and all ahead of the last closed
index (R83, R86); with the direction UNDETERMINED no slice is open (R81). -/
def openOrdered (b : SliceBuilder) : Prop :=
  match b.direction with
  | none => b.openSlices = []
  | some d =>
    b.openSlices.Pairwise (fun x y => aheadOf d y.header.index x.header.index = true) ∧
      (∀ x ∈ b.openSlices, x.header.direction = d) ∧
      ∀ k, b.lastClosed = some k → ∀ x ∈ b.openSlices, aheadOf d x.header.index k = true

/-- The bounds of the queue (R83, R85), an empty queue in IDLE (R74) and no open slice in DRAINING (R75, R76). -/
def queueSound (b : SliceBuilder) : Prop :=
  b.openSlices.length ≤ Config.openCapacity ∧
    b.openSlices.length + b.pendingSlices.length ≤ Config.queueCapacity ∧
    (b.run = .idle → b.openSlices = [] ∧ b.pendingSlices = []) ∧
    (b.run = .draining → b.openSlices = [] ∧ b.pendingSlices ≠ []) ∧
    openOrdered b

/-- The commit path never loses a pending slice: while one is pending, the path holds the store, waits for it or is blocked by
retention; with none pending it does neither (R96, R137, R139). A port that holds the store between commands has its request in work,
and no port waits while nobody holds the store (R149). -/
def commitSound (s : State) : Prop :=
  (s.slb.pendingSlices ≠ [] ↔ s.pst.holder = .commitPath ∨ s.pst.commitWaiting = true ∨ s.pst.commitBlocked = true) ∧
    (s.pst.holder = .commitPath → s.pst.commitWaiting = false ∧ s.pst.commitBlocked = false) ∧
    (s.pst.commitWaiting = true → storeFree s = false) ∧
    (∀ p, s.pst.holder = .port p → portWaiting s p = true) ∧
    (s.pst.holder = .none → anyPortWaiting s = false)

/-- R41, R57: the chainage and every surveyed chainage lie in range. -/
def positionSound (s : State) : Prop :=
  s.chu.chainage ≤ Config.maxUm ∧ ∀ e ∈ s.mku.table.toList, e.surveyed ≤ Config.maxMm

/-- R6, Table 1-9: each head timer runs exactly in its state, and a revolution is open only in ACQUIRING or LOCKED; R16, R17, R18,
R10, R23: the histories and counts lie in range, and a LOCKED head has an averaged period. -/
def headSound (r : HeadReceiver) : Prop :=
  (r.settleTimer.isSome = decide (r.state = .powering)) ∧
    (r.attemptTimer.isSome = decide (r.state = .training)) ∧
    (r.watchdog.isSome = decide (r.state = .acquiring ∨ r.state = .locked)) ∧
    (r.openRev.isSome = true → r.state = .acquiring ∨ r.state = .locked) ∧
    r.periods.length ≤ 4 ∧ r.rejectionRun ≤ 2 ∧ r.trainFailures ≤ 6 ∧ r.counter ≤ Config.sat8 ∧
    (r.state = .acquiring → r.periods.length ≤ 3) ∧
    (r.state = .locked → r.averagedPeriod.isSome = true)

def headsSound (s : State) : Prop := ∀ h, headSound (s.head h)

/-- A value of a setup entry lies in its range or set (Table 11-13). -/
def valueSound (r : EntryRange) (v : Int) : Prop :=
  match r with
  | .oneOf codes => v ∈ codes
  | .within lo hi => lo ≤ v ∧ v ≤ hi
  | .mask => True

/-- Every setup entry lies in its range or set (Table 11-13). -/
def setupSound (u : Setup) : Prop := ∀ e, valueSound (entryRange e) (setupValue u e)

/-- R156, R161 to R164: the advice is the one that the inputs as they stand give; V_CFG is at least 1 (Table 11-13). -/
def adviceSound (s : State) : Prop := s.adv.advice = adviceOf s ∧ 1 ≤ s.setup.vCfg

end Sys2Proof.Machine
end

