-- ==== Sys2Proof/Certificates/Slice0/Obligations.lean ====
section
/-! DEFINITION. The statements for the provers. Each docstring names the rule of spec/ it is about. -/

open Sys2Proof Sys2Proof.Machine

/-! ## Steps -/

/-- A command at the front of the queue is carried out on the state with the rest of the queue. -/
def Obligations.StepRunsTheFrontCommand : Prop :=
  ∀ (c : Instr) (rest : List Instr) (s : State), s.pending = c :: rest → step s = exec c { s with pending := rest }

/-- Every command answers a next state and leaves the queue as it was. The queue is the model's own (log entry 1), and that
DEVICE_RESET leaves it too is the model's choice (log entry 23). -/
def Obligations.EveryCommandAnswersAndKeepsTheQueue : Prop :=
  ∀ (c : Instr) (s : State), ∃ t, exec c s = .next t ∧ t.pending = s.pending

/-- The model's choice (log entry 1): with no command waiting a step is one microsecond. The timebase, the window time and the time
since the last conversion advance, the running head timers and the times of the UP links count, and what falls due is put on the
queue: the expiries, the window end, a conversion, a commit that holds the store, and the work of a port that was granted the
released store (log entry 8). R25: a conversion falls due 400 µs after the one before, and it is of the channel that is next in the
fixed order; the code at its input is a free value (log entry 29). The slices, the store, the tables, the position, the locks, the
Signal Word, the advice and the setup stand; the radius writes of the moment are past (log entry 26). -/
def Obligations.IdleStepPassesOneMicrosecond : Prop :=
  ∀ s : State, s.pending = [] → ∃ t, step s = .next t ∧ t.timebase = s.timebase + 1 ∧
    t.windowTime = (if s.windowTime + 1 < 10000 then s.windowTime + 1 else 0) ∧
    t.conversionTime = (if s.conversionTime + 1 < 400 then s.conversionTime + 1 else 0) ∧ t.nextChannel = s.nextChannel ∧
    (399 ≤ s.conversionTime → ∃ raw, Instr.conversion s.nextChannel raw ∈ t.pending) ∧
    (∀ ch raw, Instr.conversion ch raw ∈ t.pending → 399 ≤ s.conversionTime ∧ ch = s.nextChannel) ∧
    (∀ h, t.head h = { s.head h with
      settleTimer := (s.head h).settleTimer.map (· - 1), attemptTimer := (s.head h).attemptTimer.map (· - 1),
      watchdog := (s.head h).watchdog.map (· - 1) }) ∧
    (∀ p, t.port p = { s.port p with link := match (s.port p).link with
      | .down => .down
      | .up n => .up (n + 1) }) ∧
    (9999 ≤ s.windowTime → Instr.windowEnd ∈ t.pending) ∧
    (∀ h, (s.head h).settleTimer = some 1 → Instr.settleTimerExpiry h ∈ t.pending) ∧
    (∀ h, (s.head h).attemptTimer = some 1 → Instr.attemptTimerExpiry h ∈ t.pending) ∧
    (∀ h, (s.head h).watchdog = some 1 → Instr.revolutionWatchdogExpiry h ∈ t.pending) ∧
    (∀ p, linkDue s p = true → Instr.linkTimeout p ∈ t.pending) ∧
    (∀ p, linkDue s p = match (s.port p).link with
      | .down => false
      | .up n => decide (s.setup.linkTimeout p ≠ 0 ∧ s.setup.linkTimeout p * 10000 ≤ n + 1)) ∧
    (s.pst.holder = .commitPath → Instr.commit ∈ t.pending) ∧
    (∀ p, s.pst.holder = .port p → Instr.storeGrant ∈ t.pending) ∧
    t.slb = { s.slb with radiusWrites := [] } ∧ t.pst = s.pst ∧ t.mku = s.mku ∧ t.env = s.env ∧ t.chu = s.chu ∧ t.scv = s.scv ∧ t.locks = s.locks ∧
    t.signals = s.signals ∧ t.adv = s.adv ∧ t.setup = s.setup

/-! ## Head link and head timers -/

/-- R9. -/
def Obligations.TrainAckAtTheCurrentRateReachesAcquiring : Prop :=
  ∀ (h : HeadId) (code : Byte) (s : State), (s.head h).state = .training → code.toNat = rateCode (s.head h).rate →
    exec (.trainAck h code) s = .next (raiseAll .headState (s.setHead h { inState .acquiring (s.head h) with
      trainFailures := 0, periods := [], previous := none, rejectionRun := 0, averagedPeriod := none }))

/-- R10, R2, Table 1-7: a TRAIN_ACK with another rate code and the expiry of the attempt timer are failures; the first case of the
table that holds decides. The failure is counted first, and a downspeed goes from FULL to HALF and from HALF to QUARTER. Outside
TRAINING a TRAIN_ACK is discarded (R1, R2). That an expiry of the attempt timer outside TRAINING changes nothing is the model's
choice (log entry 7). -/
def Obligations.FailedAttemptTakesTheFirstCase : Prop :=
  (∀ (h : HeadId) (code : Byte) (s : State), (s.head h).state ≠ .training →
    exec (.trainAck h code) s = .next s ∧ exec (.attemptTimerExpiry h) s = .next s) ∧
  ∀ (h : HeadId) (code : Byte) (s : State) (c : Instr), (s.head h).state = .training →
    (c = .attemptTimerExpiry h ∨ c = .trainAck h code ∧ code.toNat ≠ rateCode (s.head h).rate) →
    let r := counted .trainFailures (s.head h)
    let n := r.trainFailures + 1
    let limit := (s.setup.head h).downspeed
    let lower : Rate := if r.rate = .full then .half else .quarter
    if r.rate ≠ .quarter ∧ limit ≠ 0 ∧ limit ≤ n then
      exec c s = .next (raiseAll .headState (s.setHead h { r with
        rate := lower, trainFailures := 0, trainSent := some lower, attemptTimer := some 50000 }))
    else if n = 7 then
      exec c s = .next (raiseAll .headState (s.setHead h { inState .faulted r with
        trainFailures := 0, openRev := none, faultCause := .train }))
    else
      exec c s = .next (s.setHead h { r with trainFailures := n, trainSent := some r.rate, attemptTimer := some 50000 })

/-- R1: a frame that fails its check has no effect but one FRAME_CHECK event in ACQUIRING and LOCKED, none in OFF, POWERING and
FAULTED, and in TRAINING it also ends the attempt as the expiry of the attempt timer does. -/
def Obligations.DamagedFrameIsDroppedAndCounted : Prop :=
  ∀ (h : HeadId) (frame : List Byte) (s : State), headFramePasses frame = false →
    exec (.frameFailsCheck h frame) s =
      match (s.head h).state with
      | .acquiring => .next (s.setHead h (counted .frameCheck (s.head h)))
      | .locked => .next (s.setHead h (counted .frameCheck (s.head h)))
      | .training => exec (.attemptTimerExpiry h) (s.setHead h (counted .frameCheck (s.head h)))
      | _ => .next s

/-- R3, R34, R47, R81: a REV_START in ACQUIRING or LOCKED restarts the watchdog, opens a revolution with its snapshots and clears
the head's stale mark; a revolution that it finds open is rejected first (R14, R17, R18), and a third rejection in a row takes a
LOCKED head to ACQUIRING, with the consequences of that exit for the slices and the advice (R94, R156), before the new revolution
opens. In the other states it is discarded. -/
def Obligations.RevStartOpensARevolution : Prop :=
  ∀ (h : HeadId) (number : BitVec 16) (code : Byte) (s : State),
    let opened : OpenRevolution :=
      { number := number, rateCode := code, nextBlock := 0, broken := decide (code.toNat ≠ rateCode (s.head h).rate),
        startTime := s.timebase,
        headChainage := (clampInt 0 999999999 ((s.chu.chainage / 1000 : Nat) +
          (if s.setup.orientation = .forward then 1 else -1) * (s.setup.head h).offset)).toNat,
        cant := s.scv.cant.value, cantInvalid := decide (s.scv.cant.status ≠ .valid), cantClamped := s.scv.cant.clamped,
        samples := [] }
    let rejected := counted .rejected (s.head h)
    ((s.head h).state ≠ .acquiring → (s.head h).state ≠ .locked → exec (.revStart h number code) s = .next s) ∧
    ((s.head h).state = .acquiring ∨ (s.head h).state = .locked → (s.head h).openRev = none →
      exec (.revStart h number code) s =
        .next (setStale (s.setHead h { s.head h with watchdog := some 40000, openRev := some opened }) h false)) ∧
    ((s.head h).state = .acquiring → (s.head h).openRev ≠ none →
      exec (.revStart h number code) s =
        .next (setStale (s.setHead h { rejected with watchdog := some 40000, openRev := some opened, periods := [] }) h false)) ∧
    ((s.head h).state = .locked → (s.head h).openRev ≠ none → (s.head h).rejectionRun ≠ 2 →
      exec (.revStart h number code) s =
        .next (setStale (s.setHead h { rejected with
          watchdog := some 40000, openRev := some opened, rejectionRun := (s.head h).rejectionRun + 1 }) h false)) ∧
    ((s.head h).state = .locked → (s.head h).openRev ≠ none → (s.head h).rejectionRun = 2 →
      let fallen := { inState .acquiring rejected with
        openRev := none, periods := [], previous := none, rejectionRun := 0, averagedPeriod := none }
      ∃ t, exec (.revStart h number code) s = .next t ∧
        t = setStale ((afterExit h (raiseAll .headState (s.setHead h fallen))).setHead h
          { fallen with openRev := some opened }) h false ∧
        t.head h = { inState .acquiring rejected with
          openRev := some opened, periods := [], previous := none, rejectionRun := 0, averagedPeriod := none } ∧
        t.head (otherHead h) = s.head (otherHead h) ∧ staleMark t h = false ∧
        (∀ p, outstanding .headState (t.port p) = true) ∧ t.chu = s.chu ∧ t.mku = s.mku ∧ t.scv = s.scv ∧ t.setup = s.setup)

/-- R4: with a revolution open, the next expected block below B is stored unless the revolution is broken, and any other block marks
it broken; with none open, or in another state, the block is discarded. That an in-order block of a broken revolution leaves the
next expected index as it was is the model's choice (log entry 25). -/
def Obligations.SampleBlockIsStoredInOrder : Prop :=
  ∀ (h : HeadId) (block : Byte) (samples : Vector Sample 64) (s : State),
    ((s.head h).openRev = none ∨ ((s.head h).state ≠ .acquiring ∧ (s.head h).state ≠ .locked) →
      exec (.sampleBlock h block samples) s = .next s) ∧
    (∀ r, (s.head h).openRev = some r → (s.head h).state = .acquiring ∨ (s.head h).state = .locked →
      (block.toNat = r.nextBlock ∧ block.toNat < rateBlocks (s.head h).rate →
        exec (.sampleBlock h block samples) s = .next (s.setHead h { s.head h with openRev := some (
          if r.broken then r else { r with nextBlock := r.nextBlock + 1, samples := r.samples ++ samples.toList }) })) ∧
      (¬(block.toNat = r.nextBlock ∧ block.toNat < rateBlocks (s.head h).rate) →
        exec (.sampleBlock h block samples) s = .next (s.setHead h { s.head h with openRev := some { r with broken := true } })))

/-- R5, R14, R17, R18: a REV_END of a broken revolution rejects it: REJECTED is counted and the buffer is freed; in ACQUIRING the
history is cleared, in LOCKED the rejection run count rises, and at 3 the head enters ACQUIRING, with the consequences of that exit
for the slices and the advice (R94, R156). A REV_END with no revolution open, or in a state other than ACQUIRING and LOCKED, is
discarded (R1). -/
def Obligations.BrokenRevolutionIsRejected : Prop :=
  (∀ (h : HeadId) (number count : BitVec 16) (s : State),
    (s.head h).openRev = none ∨ ((s.head h).state ≠ .acquiring ∧ (s.head h).state ≠ .locked) →
    exec (.revEnd h number count) s = .next s) ∧
  ∀ (h : HeadId) (number count : BitVec 16) (r : OpenRevolution) (s : State), (s.head h).openRev = some r →
    (r.broken = true ∨ r.number ≠ number ∨ count.toNat ≠ rateSamples (s.head h).rate ∨ r.nextBlock < rateBlocks (s.head h).rate) →
    ((s.head h).state = .acquiring →
      exec (.revEnd h number count) s =
        .next (s.setHead h { counted .rejected (s.head h) with openRev := none, periods := [] })) ∧
    ((s.head h).state = .locked → (s.head h).rejectionRun ≠ 2 →
      exec (.revEnd h number count) s = .next (s.setHead h { counted .rejected (s.head h) with
        openRev := none, rejectionRun := (s.head h).rejectionRun + 1 })) ∧
    ((s.head h).state = .locked → (s.head h).rejectionRun = 2 →
      let fallen := { inState .acquiring (counted .rejected (s.head h)) with
        openRev := none, periods := [], previous := none, rejectionRun := 0, averagedPeriod := none }
      ∃ t, exec (.revEnd h number count) s = .next t ∧ t = afterExit h (raiseAll .headState (s.setHead h fallen)) ∧
        t.head h = fallen ∧ t.head (otherHead h) = s.head (otherHead h) ∧
        (∀ p, outstanding .headState (t.port p) = true) ∧ t.chu = s.chu ∧ t.mku = s.mku ∧ t.setup = s.setup)

/-- R5, R15, R17: a REV_END in ACQUIRING of a revolution that is not broken, judged against the previous accepted one. That the
watchdog restarts at the entry to LOCKED is the model's reading (log entry 12). -/
def Obligations.AcquiringJudgesByNumberAndPeriod : Prop :=
  ∀ (h : HeadId) (number count : BitVec 16) (r : OpenRevolution) (s : State), (s.head h).openRev = some r →
    (s.head h).state = .acquiring → r.broken = false → r.number = number → count.toNat = rateSamples (s.head h).rate →
    rateBlocks (s.head h).rate ≤ r.nextBlock →
    ((s.head h).previous = none →
      exec (.revEnd h number count) s =
        .next (s.setHead h { s.head h with openRev := none, previous := some ⟨number, r.startTime⟩ })) ∧
    (∀ q, (s.head h).previous = some q →
      let p := (r.startTime - q.startTime).toNat
      (number ≠ q.number + 1 →
        exec (.revEnd h number count) s = .next (s.setHead h { counted .gap (s.head h) with
          openRev := none, previous := some ⟨number, r.startTime⟩, periods := [] })) ∧
      (number = q.number + 1 → (p < 2000 ∨ 40000 < p) →
        exec (.revEnd h number count) s = .next (s.setHead h { counted .rejected (s.head h) with
          openRev := none, periods := [] })) ∧
      (number = q.number + 1 → 2000 ≤ p → p ≤ 40000 → (s.head h).periods.length < 3 →
        exec (.revEnd h number count) s = .next (s.setHead h { s.head h with
          openRev := none, previous := some ⟨number, r.startTime⟩, periods := (s.head h).periods ++ [p] })) ∧
      (number = q.number + 1 → 2000 ≤ p → p ≤ 40000 → (s.head h).periods.length = 3 →
        ∃ t, exec (.revEnd h number count) s = .next t ∧
          t.head h = { inState .locked (s.head h) with
            openRev := none, previous := some ⟨number, r.startTime⟩, periods := (s.head h).periods ++ [p],
            averagedPeriod := some (((s.head h).periods ++ [p]).sum / 4), rejectionRun := 0 } ∧
          (∀ g, outstanding .headState (t.port g) = true) ∧ t.chu = s.chu ∧ t.mku = s.mku ∧ t.setup = s.setup))

/-- R5, R15, R16, R18: a REV_END in LOCKED of a revolution that is not broken. It is accepted without a period as a reference when
there is no previous one or as a GAP when its number does not follow, and with its period when that lies in range; the rejection run
count returns to 0 and the revolution is delivered with its number, its rate, its snapshots and its samples. A period out of range
rejects it. Two rows of R99 are in the model's own form: a mark which its head took at the very moment of the delivery is taken back
first (log entry 4), and a close test that was made at that moment is completed first, with the revolution closed at its head (log
entry 28). What a delivery does to a stale one follows log entry 4. -/
def Obligations.LockedAcceptsAndDelivers : Prop :=
  ∀ (h : HeadId) (number count : BitVec 16) (r : OpenRevolution) (s : State),
    (s.head h).openRev = some r → (s.head h).state = .locked → r.broken = false → r.number = number →
    count.toNat = rateSamples (s.head h).rate → rateBlocks (s.head h).rate ≤ r.nextBlock →
    let taken : HeadReceiver := { s.head h with
      openRev := none, previous := some ⟨number, r.startTime⟩, rejectionRun := 0 }
    let tested := fun (x : State) =>
      if s.slb.lastTest = some s.timebase ∧ r.startTime ≠ s.timebase then closeTest x else x
    let delivered := fun (x : State) =>
      deliver { head := h, number := number, rate := (s.head h).rate, headChainage := r.headChainage, cant := r.cant,
                cantInvalid := r.cantInvalid, cantClamped := r.cantClamped, samples := r.samples }
        (if staleMark s h = true ∧ staleMoment s h = s.timebase ∧ r.startTime ≠ s.timebase then setStale (tested x) h false
          else tested x)
    let frame := fun (t : State) =>
      t.head (otherHead h) = s.head (otherHead h) ∧ t.chu = s.chu ∧ t.mku = s.mku ∧ t.scv = s.scv ∧ t.env = s.env ∧
        t.locks = s.locks ∧ t.signals = s.signals ∧ t.setup = s.setup ∧ t.timebase = s.timebase
    ((s.head h).previous = none →
      ∃ t, exec (.revEnd h number count) s = .next t ∧ t = delivered (s.setHead h taken) ∧ frame t) ∧
    (∀ q, (s.head h).previous = some q →
      let p := (r.startTime - q.startTime).toNat
      let ps := (if (s.head h).periods.length < 4 then (s.head h).periods else (s.head h).periods.drop 1) ++ [p]
      let a := s.setHead h { taken with
        periods := ps, averagedPeriod := if ps.length = 4 then some (ps.sum / 4) else (s.head h).averagedPeriod }
      (number ≠ q.number + 1 →
        ∃ t, exec (.revEnd h number count) s = .next t ∧
          t = delivered (s.setHead h { counted .gap (s.head h) with
            openRev := none, previous := some ⟨number, r.startTime⟩, rejectionRun := 0, periods := [] }) ∧ frame t) ∧
      (number = q.number + 1 → 2000 ≤ p → p ≤ 40000 →
        ∃ t, exec (.revEnd h number count) s = .next t ∧
          t = delivered (if ps.length = 4 then evaluateAdvice a else a) ∧ frame t) ∧
      (number = q.number + 1 → (p < 2000 ∨ 40000 < p) →
        ((s.head h).rejectionRun ≠ 2 →
          exec (.revEnd h number count) s = .next (s.setHead h { counted .rejected (s.head h) with
            openRev := none, rejectionRun := (s.head h).rejectionRun + 1 })) ∧
        ((s.head h).rejectionRun = 2 →
          exec (.revEnd h number count) s =
            .next (afterExit h (raiseAll .headState (s.setHead h { inState .acquiring (counted .rejected (s.head h)) with
              openRev := none, periods := [], previous := none, rejectionRun := 0, averagedPeriod := none }))))))

/-- R8, R11, R19: the settle timer expires in POWERING: LINE before SUPPLY before TRAINING, where the first TRAIN is sent. The
watchdog expires in ACQUIRING or LOCKED: the head enters TRAINING at its rate and sends the first TRAIN, an open revolution is
rejected and counted, and what the head has learned is kept; in ACQUIRING that is all, in LOCKED the exit has its consequences for
the slices and the advice (R94, R156). That an expiry outside its state changes nothing is the model's choice (log entry 7). -/
def Obligations.HeadTimersExpire : Prop :=
  ∀ (h : HeadId) (s : State),
    let r := if (s.head h).openRev = none then s.head h else counted .rejected (s.head h)
    let q := { inState .training r with openRev := none, trainSent := some r.rate }
    ((s.head h).state ≠ .powering → exec (.settleTimerExpiry h) s = .next s) ∧
    ((s.head h).state = .powering → (s.scv.line h).cls ≠ .normal →
      exec (.settleTimerExpiry h) s = .next (raiseAll .headState (s.setHead h { inState .faulted (s.head h) with
        openRev := none, faultCause := .line }))) ∧
    ((s.head h).state = .powering → (s.scv.line h).cls = .normal → (s.scv.supply h).state = .outOfWindow →
      exec (.settleTimerExpiry h) s = .next (raiseAll .headState (s.setHead h { inState .faulted (s.head h) with
        openRev := none, faultCause := .supply }))) ∧
    ((s.head h).state = .powering → (s.scv.line h).cls = .normal → (s.scv.supply h).state = .inWindow →
      exec (.settleTimerExpiry h) s = .next (raiseAll .headState (s.setHead h { inState .training (s.head h) with
        trainSent := some (s.head h).rate }))) ∧
    ((s.head h).state ≠ .acquiring → (s.head h).state ≠ .locked → exec (.revolutionWatchdogExpiry h) s = .next s) ∧
    ((s.head h).state = .acquiring →
      exec (.revolutionWatchdogExpiry h) s = .next (raiseAll .headState (s.setHead h q))) ∧
    ((s.head h).state = .locked →
      ∃ t, exec (.revolutionWatchdogExpiry h) s = .next t ∧
        t = afterExit h (raiseAll .headState (s.setHead h q)) ∧ t.head h = q ∧ t.head (otherHead h) = s.head (otherHead h) ∧
        (∀ p, outstanding .headState (t.port p) = true) ∧ t.chu = s.chu ∧ t.mku = s.mku ∧ t.scv = s.scv ∧
        t.setup = s.setup ∧ t.locks = s.locks)

/-! ## Head and sense requests -/

/-- R20, R21: HEAD RESTART and HEAD POWER OFF from an IDLE slot. A restart of a FAULTED head with an abnormal line class is refused;
otherwise the head enters POWERING at HEAD_MAX_RATE[h] with everything of its acquisition cleared, and HEAD_STATE is raised. A power
off takes the head to OFF with its timers stopped and its open revolution discarded, keeps what it had learned, and raises
HEAD_STATE unless it was in OFF. From LOCKED the exit has its consequences for the slices and the advice (R94, R156). A head number
other than 1 or 2 is answered BAD_VALUE. R6, Table 1-9: HPWR[h] is off exactly while the head is OFF or FAULTED. -/
def Obligations.HeadRequestsMoveTheHead : Prop :=
  (∀ (h : HeadId) (s : State), headPower s h = false ↔ (s.head h).state = .off ∨ (s.head h).state = .faulted) ∧
  ∀ (p : PortId) (h : HeadId) (b : Byte) (s : State), (s.port p).slot = .idle →
    let restarted := { inState .powering (s.head h) with
      rate := (s.setup.head h).maxRate, trainFailures := 0, periods := [], previous := none, rejectionRun := 0,
      averagedPeriod := none, openRev := none }
    let off := { inState .off (s.head h) with openRev := none }
    (b.toNat ≠ 1 → b.toNat ≠ 2 →
      exec (.headRestart p b) s = .next (onlyAnswer p .badValue 0x30 [] s) ∧
      exec (.headPowerOff p b) s = .next (onlyAnswer p .badValue 0x31 [] s)) ∧
    (b.toNat = headNumber h →
      ((s.head h).state = .faulted → (s.scv.line h).cls ≠ .normal →
        exec (.headRestart p b) s = .next (onlyAnswer p .lineAbnormal 0x30 [] s)) ∧
      (¬((s.head h).state = .faulted ∧ (s.scv.line h).cls ≠ .normal) → (s.head h).state ≠ .locked →
        exec (.headRestart p b) s =
          .next (withAnswer p .ok 0x30 [] (raiseAll .headState ((afterFrame p s).setHead h restarted)))) ∧
      ((s.head h).state = .off →
        exec (.headPowerOff p b) s = .next (withAnswer p .ok 0x31 [] ((afterFrame p s).setHead h off))) ∧
      ((s.head h).state ≠ .off → (s.head h).state ≠ .locked →
        exec (.headPowerOff p b) s =
          .next (withAnswer p .ok 0x31 [] (raiseAll .headState ((afterFrame p s).setHead h off)))) ∧
      ∀ c ∈ [Instr.headRestart p b, .headPowerOff p b], (s.head h).state = .locked →
        let next := if c = .headRestart p b then restarted else off
        let echo : Byte := if c = .headRestart p b then 0x30 else 0x31
        ∃ t, exec c s = .next t ∧
          t = withAnswer p .ok echo [] (afterExit h (raiseAll .headState ((afterFrame p s).setHead h next))) ∧ t.head h = next ∧
          t.head (otherHead h) = s.head (otherHead h) ∧
          (t.port p).slot = .ready { status := .ok, echo := echo, payload := [] } ∧
          (∀ q, outstanding .headState (t.port q) = true) ∧ t.chu = s.chu ∧ t.mku = s.mku ∧ t.scv = s.scv ∧ t.env = s.env ∧
          t.locks = s.locks ∧ t.signals = s.signals ∧ t.setup = s.setup)

/-- R23: SELECT HEAD COUNTER and CLEAR HEAD COUNTER from an IDLE slot; a head number other than 1 or 2, or a selection above 5, is
answered BAD_VALUE with no effect. -/
def Obligations.HeadCounterIsSelectedAndCleared : Prop :=
  ∀ (p : PortId) (b x : Byte) (s : State), (s.port p).slot = .idle →
    (b.toNat ≠ 1 → b.toNat ≠ 2 →
      exec (.selectHeadCounter p b x) s = .next (onlyAnswer p .badValue 0x33 [] s) ∧
      exec (.clearHeadCounter p b) s = .next (onlyAnswer p .badValue 0x34 [] s)) ∧
    (5 < x.toNat → exec (.selectHeadCounter p b x) s = .next (onlyAnswer p .badValue 0x33 [] s)) ∧
    ∀ h, b.toNat = headNumber h →
      (∀ c, x.toNat = selectionCode c →
        exec (.selectHeadCounter p b x) s =
          .next (withAnswer p .ok 0x33 [] ((afterFrame p s).setHead h { s.head h with selection := c, counter := 0 }))) ∧
      exec (.clearHeadCounter p b) s =
        .next (withAnswer p .ok 0x34 [] ((afterFrame p s).setHead h { s.head h with counter := 0 }))

/-- R25, R26, R27, R12: a conversion of SUPPLY1 or SUPPLY2: the window keeps the newest eight codes, the filtered code is the floor
of the mean of the newest AVG, and three filtered codes in a row on the other side change the state. While the state stands, nothing
else changes; a change to out-of-window moves an active head to FAULTED with cause SUPPLY, and the exit of a LOCKED one has its
consequences for the slices and the advice (R94). The next conversion is of the channel after it in the order CANT, SUPPLY1,
SUPPLY2, LINE1, LINE2, 400 µs later; that a conversion commanded out of its turn or time is carried out, and the order goes on from
it, is the model's choice (log entry 7). -/
def Obligations.SupplyConversionIsDebounced : Prop :=
  ∀ (h : HeadId) (raw : BitVec 12) (s : State),
    let u := { s with conversionTime := 0, nextChannel := if h = HeadId.h1 then .supply .h2 else .line .h1 }
    let old := s.scv.supply h
    let w := (if old.channel.window.length < 8 then old.channel.window else old.channel.window.drop 1) ++ [raw]
    let n := min (s.setup.avgSupply h) w.length
    let code := ((w.drop (w.length - n)).map BitVec.toNat).sum / n
    let side : SupplyState :=
      if (s.setup.supply h).low ≤ code ∧ code ≤ (s.setup.supply h).high then .inWindow else .outOfWindow
    let channel : SenseChannel := { window := w, filtered := some code }
    (side = old.state →
      exec (.conversion (.supply h) raw) s =
        .next { u with scv := s.scv.setSupply h { channel := channel, state := old.state, count := 0 } }) ∧
    (side ≠ old.state → old.count ≠ 2 →
      exec (.conversion (.supply h) raw) s =
        .next { u with scv := s.scv.setSupply h { channel := channel, state := old.state, count := old.count + 1 } }) ∧
    (side ≠ old.state → old.count = 2 →
      let t := raiseAll .supplyRange { u with scv := s.scv.setSupply h { channel := channel, state := side, count := 0 } }
      (side = .inWindow ∨ (s.head h).state = .off ∨ (s.head h).state = .faulted →
        exec (.conversion (.supply h) raw) s = .next t) ∧
      (side = .outOfWindow → (s.head h).state ≠ .off → (s.head h).state ≠ .faulted → (s.head h).state ≠ .locked →
        exec (.conversion (.supply h) raw) s = .next (raiseAll .headState (t.setHead h { inState .faulted (s.head h) with
          openRev := none, faultCause := .supply }))) ∧
      (side = .outOfWindow → (s.head h).state = .locked →
        exec (.conversion (.supply h) raw) s =
          .next (afterExit h (raiseAll .headState (t.setHead h { inState .faulted (s.head h) with
            openRev := none, faultCause := .supply })))))

/-- R25, R29, R30, R12: a conversion of LINE1 or LINE2 with the window as it then stands: the candidate rule and the third code in a
row. A change to an abnormal class moves an active head to FAULTED with cause LINE, and the exit of a LOCKED one has its
consequences for the slices and the advice (R94). The next conversion is of the channel after it in the order CANT, SUPPLY1,
SUPPLY2, LINE1, LINE2 and CANT again, 400 µs later; that a conversion commanded out of its turn or time is carried out, and the
order goes on from it, is the model's choice (log entry 7). -/
def Obligations.LineConversionIsDebounced : Prop :=
  ∀ (h : HeadId) (raw : BitVec 12) (s : State),
    let u := { s with conversionTime := 0, nextChannel := if h = HeadId.h1 then .line .h2 else .cant }
    let old := s.scv.line h
    let w := (if old.channel.window.length < 8 then old.channel.window else old.channel.window.drop 1) ++ [raw]
    let n := min (s.setup.avgLine h) w.length
    let code := ((w.drop (w.length - n)).map BitVec.toNat).sum / n
    let band : LineClass :=
      if code ≤ 255 then .shortGnd else if code ≤ 2815 then .normal else if code ≤ 3839 then .opened else .shortSupply
    let channel : SenseChannel := { window := w, filtered := some code }
    (band = old.cls →
      exec (.conversion (.line h) raw) s =
        .next { u with scv := s.scv.setLine h { channel := channel, cls := old.cls, candidate := none, count := 0 } }) ∧
    (band ≠ old.cls → old.candidate ≠ some band →
      exec (.conversion (.line h) raw) s =
        .next { u with scv := s.scv.setLine h { channel := channel, cls := old.cls, candidate := some band, count := 1 } }) ∧
    (band ≠ old.cls → old.candidate = some band → old.count ≠ 2 →
      let m : LineMonitor := { channel := channel, cls := old.cls, candidate := some band, count := old.count + 1 }
      exec (.conversion (.line h) raw) s = .next { u with scv := s.scv.setLine h m }) ∧
    (band ≠ old.cls → old.candidate = some band → old.count = 2 →
      let m : LineMonitor := { channel := channel, cls := band, candidate := none, count := 0 }
      let t := raiseAll .lineFault { u with scv := s.scv.setLine h m }
      (band = .normal ∨ (s.head h).state = .off ∨ (s.head h).state = .faulted →
        exec (.conversion (.line h) raw) s = .next t) ∧
      (band ≠ .normal → (s.head h).state ≠ .off → (s.head h).state ≠ .faulted → (s.head h).state ≠ .locked →
        exec (.conversion (.line h) raw) s = .next (raiseAll .headState (t.setHead h { inState .faulted (s.head h) with
          openRev := none, faultCause := .line }))) ∧
      (band ≠ .normal → (s.head h).state = .locked →
        exec (.conversion (.line h) raw) s =
          .next (afterExit h (raiseAll .headState (t.setHead h { inState .faulted (s.head h) with
            openRev := none, faultCause := .line })))))

/-- R25, R31, R32, R33: a conversion of CANT: the filtered code decides the status, a valid code gives the value rounded half away
from zero and clamped, and an invalid one holds it; CANT_INVALID is raised on the three changes of status. The next conversion is of
the channel after it in the order CANT, SUPPLY1, SUPPLY2, LINE1, LINE2, 400 µs later; that a conversion commanded out of its turn or
time is carried out, and the order goes on from it, is the model's choice (log entry 7). -/
def Obligations.CantConversionRoundsAndClamps : Prop :=
  ∀ (raw : BitVec 12) (s : State),
    let u := { s with conversionTime := 0, nextChannel := .supply .h1 }
    let old := s.scv.cant
    let w := (if old.channel.window.length < 8 then old.channel.window else old.channel.window.drop 1) ++ [raw]
    let n := min s.setup.avgCant w.length
    let code := ((w.drop (w.length - n)).map BitVec.toNat).sum / n
    let product : Int := ((code : Int) - s.setup.cantZero) * s.setup.cantGain
    let magnitude : Int := product.natAbs / 256 + (if 128 ≤ product.natAbs % 256 then 1 else 0)
    let rounded : Int := if product < 0 then -magnitude else magnitude
    let channel : SenseChannel := { window := w, filtered := some code }
    if code = 0 ∨ code = 4095 then
      exec (.conversion .cant raw) s = .next (
        let t := { u with scv := { s.scv with cant := { old with channel := channel, status := .invalid } } }
        if old.status = .invalid then t else raiseAll .cantInvalid t)
    else
      exec (.conversion .cant raw) s = .next (
        let m : CantMonitor :=
          { channel := channel, status := .valid, value := max (-1000) (min 1000 rounded),
            clamped := decide (rounded < -1000 ∨ 1000 < rounded) }
        let t := { u with scv := { s.scv with cant := m } }
        if old.status = .invalid then raiseAll .cantInvalid t else t)

/-! ## Position and markers -/

/-- R37, R38, Table 3-2: a change of one phase counts +1 or −1, a change of both is illegal and counts up to the eighth. The pair
that follows ⟨a, b⟩ in the forward cycle is ⟨b, not a⟩; a pair that stays as it was is no transition. The eighth illegal transition
of a window makes a HEALTHY encoder FAILED: with the other HEALTHY, slip in force ends (R44) and a quality of SURVEYED or
DEAD_RECKONED becomes DEGRADED (R50); with the other FAILED the quality becomes LOST (R51). That an encoder already FAILED goes on
counting its illegal transitions, to at most 8, is the model's reading (log entry 13). -/
def Obligations.EncoderTransitionFollowsTheTable : Prop :=
  ∀ (side : Side) (new : Phase) (s : State),
    let e := s.chu.encoder side
    let other := s.chu.encoder (otherSide side)
    let changed := fun e' => { s with chu := s.chu.setEncoder side e' }
    (new = e.phase → exec (.encoderTransition side new) s = .next s) ∧
    (new = ⟨e.phase.b, !e.phase.a⟩ →
      exec (.encoderTransition side new) s = .next (changed { e with phase := new, delta := e.delta + 1 })) ∧
    (new = ⟨!e.phase.b, e.phase.a⟩ →
      exec (.encoderTransition side new) s = .next (changed { e with phase := new, delta := e.delta - 1 })) ∧
    (new = ⟨!e.phase.a, !e.phase.b⟩ → (e.illegal + 1 < 8 ∨ e.health = .failed) →
      exec (.encoderTransition side new) s = .next (changed { e with phase := new, illegal := min 8 (e.illegal + 1) })) ∧
    (new = ⟨!e.phase.a, !e.phase.b⟩ → 8 ≤ e.illegal + 1 → e.health = .healthy →
      ∃ t, exec (.encoderTransition side new) s = .next t ∧
        t.chu.encoder side = { e with phase := new, illegal := 8, health := .failed } ∧ t.chu.encoder (otherSide side) = other ∧
        t.chu.chainage = s.chu.chainage ∧ t.chu.remainder = s.chu.remainder ∧ t.chu.direction = s.chu.direction ∧
        (other.health = .healthy →
          t.chu.slip = false ∧
          (s.chu.slip = true → t.chu.slipTravel = 0 ∧ t.chu.slipLeft = 0 ∧ t.chu.slipRight = 0) ∧
          t.chu.quality = (if s.chu.quality = .surveyed ∨ s.chu.quality = .deadReckoned then .degraded else s.chu.quality)) ∧
        (other.health = .failed → t.chu.quality = .lost) ∧
        (t.chu.quality ≠ s.chu.quality → ∀ p, outstanding .qualityChange (t.port p) = true) ∧
        t.head1 = s.head1 ∧ t.head2 = s.head2 ∧ t.scv = s.scv ∧ t.env = s.env ∧ t.locks = s.locks ∧ t.setup = s.setup)

/-- R39, R40, R41, R45: a window end forms the fused distance in the mode in force, adds it to the chainage with the clamp, carries
the remainder, appends its magnitude to the speed history, and clears the window's counts; a clamped sum leaves the quality LOST.
The motion direction is determined or reversed by 50,000 µm, with both accumulators cleared at the change (R46), and the travel
since survey rises by the magnitude (R48; that it saturates as held in µm is the model's reading, log entry 13). The slip check is
made each 500,000 µm (R42, R43). Without a clamp the marker misses are counted (R69) and the next expected marker moves on, or is
recomputed at a change of direction (R68); a miss that reaches MISS_LIMIT (R70), slip and the survey hold (R48) lower the quality; a
reversal in RUNNING breaks the segment (R79), and in segment 65535 ends the run (R80), a first determination sets its direction
(R78), and otherwise the close test closes the open slices that every LOCKED head has passed (R92). That a WINDOW_END which is taken
early restarts the window is the model's choice (log entry 7). What a break in segment 65535 does beyond ending the run, and that
the run state is judged after the flush, is the model's reading (log entries 14 and 18). -/
def Obligations.WindowEndFusesAndUpdatesTheDirection : Prop :=
  ∀ s : State,
    let o : Int := if s.setup.orientation = .forward then 1 else -1
    let l := s.chu.left.delta
    let r := s.chu.right.delta
    let m : Option Int :=
      if s.chu.left.health = .healthy ∧ s.chu.right.health = .healthy then
        (if s.chu.slip then some (2 * (if r.natAbs < l.natAbs then r else l)) else some (l + r))
      else if s.chu.left.health = .healthy then some (2 * l)
      else if s.chu.right.health = .healthy then some (2 * r)
      else none
    let n : Int := (m.map fun x => x * 1000000 * o + s.chu.remainder).getD 0
    let d : Int := n.tdiv (2 * s.setup.encK)
    let sum : Int := s.chu.chainage + d
    let clamped : Bool := decide (sum < 0 ∨ 999999999999 < sum)
    let both : Bool := decide (s.chu.left.health = .healthy ∧ s.chu.right.health = .healthy)
    let stretch := s.chu.slipTravel + d.natAbs
    let wl := s.chu.slipLeft + l.natAbs
    let wr := s.chu.slipRight + r.natAbs
    let slipped : Bool := decide (s.setup.slipTol * (wl + wr) < ((wl : Int) - wr).natAbs * 2000)
    let lower := fun (q : Quality) => if q = .surveyed ∨ q = .deadReckoned then Quality.degraded else q
    ∃ t, exec .windowEnd s = .next t ∧
      (t.chu.chainage : Int) = (if sum < 0 then 0 else if 999999999999 < sum then 999999999999 else sum) ∧
      t.chu.remainder = (if clamped then 0 else n - d * (2 * s.setup.encK)) ∧
      t.chu.speedHistory = #v[s.chu.speedHistory[1], s.chu.speedHistory[2], s.chu.speedHistory[3], d.natAbs] ∧
      t.chu.left = { s.chu.left with delta := 0, illegal := 0 } ∧
      t.chu.right = { s.chu.right with delta := 0, illegal := 0 } ∧
      (clamped = true → t.chu.quality = .lost) ∧
      t.chu.travel = min 999999999000 (s.chu.travel + d.natAbs) ∧
      (s.chu.direction = none →
        (50000 ≤ (s.chu.determination + d).natAbs →
          t.chu.direction = some (if 0 < s.chu.determination + d then .increasing else .decreasing) ∧
          t.chu.determination = 0 ∧ t.chu.reversal = 0) ∧
        ((s.chu.determination + d).natAbs < 50000 →
          t.chu.direction = none ∧ t.chu.determination = s.chu.determination + d)) ∧
      (∀ e, s.chu.direction = some e →
        (d = 0 → t.chu.direction = some e ∧ t.chu.reversal = s.chu.reversal) ∧
        (d ≠ 0 → (0 < d ↔ e = .increasing) → t.chu.direction = some e ∧ t.chu.reversal = 0) ∧
        (d ≠ 0 → ¬(0 < d ↔ e = .increasing) →
          (50000 ≤ s.chu.reversal + d.natAbs →
            t.chu.direction = some (if 0 < d then .increasing else .decreasing) ∧ t.chu.reversal = 0) ∧
          (s.chu.reversal + d.natAbs < 50000 →
            t.chu.direction = some e ∧ t.chu.reversal = s.chu.reversal + d.natAbs))) ∧
      (both = false → t.chu.slip = s.chu.slip ∧ t.chu.slipTravel = 0 ∧ t.chu.slipLeft = 0 ∧ t.chu.slipRight = 0) ∧
      (both = true → stretch < 500000 →
        t.chu.slip = s.chu.slip ∧ t.chu.slipTravel = stretch ∧ t.chu.slipLeft = wl ∧ t.chu.slipRight = wr) ∧
      (both = true → 500000 ≤ stretch →
        t.chu.slip = slipped ∧ t.chu.slipTravel = 0 ∧ t.chu.slipLeft = 0 ∧ t.chu.slipRight = 0) ∧
      (t.chu.quality ≠ s.chu.quality → ∀ p, outstanding .qualityChange (t.port p) = true) ∧
      (clamped = true → s.chu.quality ≠ .lost → t.mku.nextExpected = none ∧
        (s.slb.run = .running →
          let reached := s.slb.segment.toNat + (if s.chu.direction ≠ none ∧ t.chu.direction ≠ s.chu.direction then 2 else 1)
          t.slb.openSlices = [] ∧ t.slb.segment.toNat = min 65535 reached ∧
          t.slb.run = (if reached ≤ 65535 then .running else
            if s.slb.openSlices = [] ∧ s.slb.pendingSlices = [] then .idle else .draining) ∧
          (65535 < reached → ∀ p, outstanding .runState (t.port p) = true) ∧
          ∀ p, outstanding .segmentBreak (t.port p) = true)) ∧
      (clamped = false → (∀ k, s.mku.nextExpected = some k → k < 256) →
        let c := t.chu.chainage / 1000
        let enabled := fun (i : Nat) => (s.mku.table[i]?).any (·.enabled)
        let missed := fun (e : Direction) (i : Nat) => (s.mku.table[i]?).any fun x => match e with
          | .increasing => decide (x.surveyed + x.window < c)
          | .decreasing => decide (c + x.window < x.surveyed)
        let inOrder := fun (e : Direction) => match e with
          | .increasing => List.range 256
          | .decreasing => (List.range 256).reverse
        let misses : List Nat × Option Nat := match s.mku.nextExpected, s.chu.direction with
          | some k, some e =>
            let line := (inOrder e).filter fun i => decide (i = k) || (aheadOf e i k && enabled i)
            (line.takeWhile (missed e), (line.dropWhile (missed e)).head?)
          | x, _ => ([], x)
        let count := min 7 (s.mku.missCount + misses.1.length)
        let atLimit : Bool :=
          decide (misses.1 ≠ [] ∧ s.mku.missCount < s.setup.missLimit ∧ s.setup.missLimit ≤ count)
        let q1 := if atLimit then lower s.chu.quality else s.chu.quality
        let q2 := if both && slipped && decide (500000 ≤ stretch) then lower q1 else q1
        let turned : Bool := decide (t.chu.direction ≠ s.chu.direction)
        let lowered := fun (q : Quality) => s.slb.openSlices.map fun x =>
          if q = s.chu.quality then x else { x with header := { x.header with lowest := lowerQuality x.header.lowest q } }
        let broken : Bool := turned && decide
          (s.slb.run = .running ∧ s.slb.direction ≠ none ∧ s.slb.direction ≠ t.chu.direction)
        t.mku.missCount = (if misses.1 = [] then s.mku.missCount else count) ∧
        (misses.1 ≠ [] → ∀ p, outstanding .markerMiss (t.port p) = true) ∧
        (turned = false → t.mku.nextExpected = misses.2) ∧
        (∀ e, turned = true → t.chu.direction = some e →
          t.mku.nextExpected = if s.locks.markers = none ∧ s.mku.suspended = false ∧ s.chu.quality ≠ .lost then
            (inOrder e).find? (fun i => enabled i && !missed e i) else none) ∧
        t.chu.quality =
          (if q2 = .surveyed ∧ s.setup.surveyHold * 1000000 ≤ t.chu.travel then .deadReckoned else q2) ∧
        (broken = true →
          t.slb.openSlices = [] ∧
          t.slb.pendingSlices = s.slb.pendingSlices ++ (lowered q1).map (closedSlice .flush s) ∧
          t.slb.segment = (if s.slb.segment = 65535 then s.slb.segment else s.slb.segment + 1) ∧
          t.slb.run = (if s.slb.segment ≠ 65535 then .running else
            if s.slb.openSlices = [] ∧ s.slb.pendingSlices = [] then .idle else .draining) ∧
          (s.slb.segment = 65535 → ∀ p, outstanding .runState (t.port p) = true) ∧
          t.slb.direction = t.chu.direction ∧ t.slb.lastOpened = none ∧
          t.slb.lastClosed = none ∧ t.slb.carriedSkipped = 0 ∧ t.slb.carriedOverruns = s.slb.carriedOverruns ∧
          ∀ p, outstanding .segmentBreak (t.port p) = true) ∧
        (broken = false →
          t.slb.openSlices = (lowered t.chu.quality).dropWhile (passedByAll t) ∧
          t.slb.pendingSlices = s.slb.pendingSlices ++
            ((lowered t.chu.quality).takeWhile (passedByAll t)).map (closedSlice .passage s) ∧
          t.slb.run = s.slb.run ∧ t.slb.segment = s.slb.segment ∧
          t.slb.direction = (if s.slb.run = .running ∧ turned = true ∧ s.slb.direction = none then t.chu.direction
            else s.slb.direction))) ∧
      t.windowTime = 0 ∧ t.head1 = s.head1 ∧ t.head2 = s.head2 ∧ t.scv = s.scv ∧ t.env = s.env ∧ t.locks = s.locks ∧
      t.signals = s.signals ∧ t.setup = s.setup ∧ t.timebase = s.timebase

/-- R53, R79, R80: SET CHAINAGE from the holder of the SETUP lock, in an IDLE slot. A RUNNING run has its segment broken, which in
segment 65535 ends the run. What a break in segment 65535 does beyond ending the run, and that the run state is judged after the
flush, is the model's reading (log entries 14 and 18). -/
def Obligations.SetChainageSetsThePosition : Prop :=
  ∀ (p : PortId) (mm : BitVec 32) (s : State), (s.port p).slot = .idle →
    (s.locks.setup ≠ some p → exec (.setChainage p mm) s = .next (onlyAnswer p .lockRequired 0x13 [] s)) ∧
    (s.locks.setup = some p →
      ∃ t, exec (.setChainage p mm) s = .next t ∧
        (t.port p).slot = .ready {
          status := if mm.toNat ≤ 999999999 then .ok else .clamped, echo := 0x13, payload := [] } ∧
        t.chu = { s.chu with
          chainage := min mm.toNat 999999999 * 1000, remainder := 0, left := { s.chu.left with health := .healthy, illegal := 0 },
          right := { s.chu.right with health := .healthy, illegal := 0 }, slip := false, slipTravel := 0, slipLeft := 0,
          slipRight := 0, direction := none, reversal := 0, determination := 0, travel := 0, quality := .deadReckoned } ∧
        t.mku = { s.mku with missCount := 0, nextExpected := none } ∧
        (s.chu.quality ≠ .deadReckoned → ∀ q, outstanding .qualityChange (t.port q) = true) ∧
        (s.slb.run = .running →
          t.slb.openSlices = [] ∧ t.slb.segment = (if s.slb.segment = 65535 then s.slb.segment else s.slb.segment + 1) ∧
          t.slb.run = (if s.slb.segment ≠ 65535 then .running else
            if s.slb.openSlices = [] ∧ s.slb.pendingSlices = [] then .idle else .draining) ∧
          (s.slb.segment = 65535 → ∀ q, outstanding .runState (t.port q) = true) ∧ t.slb.direction = none ∧
          ∀ q, outstanding .segmentBreak (t.port q) = true) ∧
        (s.slb.run ≠ .running → t.slb = { s.slb with openSlices := s.slb.openSlices.map fun x =>
          { x with header := { x.header with lowest :=
            if s.chu.quality = .deadReckoned then x.header.lowest else lowerQuality x.header.lowest .deadReckoned } } }) ∧
        t.head1 = s.head1 ∧ t.head2 = s.head2 ∧ t.scv = s.scv ∧ t.env = s.env ∧ t.locks = s.locks ∧ t.signals = s.signals ∧
        t.setup = s.setup)

/-- R62, R63, R64, R67: a suppressed edge only counts; a taken edge in EDIT, in SUSPENDED or at quality LOST is logged with its time
and chainage and changes nothing else, and so is one that finds no enabled marker, or whose nearest marker lies farther than its own
window, even where a farther marker's window reaches. That the 5 ms are a difference of times modulo 2^48 is the model's reading
(log entry 20). -/
def Obligations.EdgesThatDoNotMatchAreSuppressedOrLogged : Prop :=
  ∀ s : State,
    let taken := fun (r : CaptureResult) => raiseAll .markerCapture { s with mku := { s.mku with
      lastEdge := some s.timebase,
      log := (⟨s.timebase, s.chu.chainage / 1000, none, 0, r⟩ :: s.mku.log).take 16,
      captureTotal := s.mku.captureTotal + 1 } }
    if ∃ t, s.mku.lastEdge = some t ∧ (s.timebase - t).toNat < 5000 then
      exec .markEdge s = .next { s with mku := { s.mku with suppressed := min 65535 (s.mku.suppressed + 1) } }
    else
      (s.locks.markers ≠ none → exec .markEdge s = .next (taken .ignoredEdit)) ∧
      (s.locks.markers = none → s.mku.suspended = true → exec .markEdge s = .next (taken .ignoredSuspended)) ∧
      (s.locks.markers = none → s.mku.suspended = false → s.chu.quality = .lost →
        exec .markEdge s = .next (taken .ignoredLost)) ∧
      (s.locks.markers = none → s.mku.suspended = false → s.chu.quality ≠ .lost →
        let apart := fun (e : MarkerEntry) => ((e.surveyed : Int) - (s.chu.chainage / 1000 : Nat)).natAbs
        (∀ (i : Nat) (e : MarkerEntry), s.mku.table[i]? = some e → e.enabled = true →
          (∀ (j : Nat) (f : MarkerEntry), s.mku.table[j]? = some f → f.enabled = true →
            apart e < apart f ∨ (apart e = apart f ∧ i ≤ j)) → e.window < apart e) →
        exec .markEdge s = .next (taken .unexpected))

/-- R64, R65, R66, R67: the marker a taken edge matches is enabled, lies within its own window, is nearest, and of equally near ones
has the lowest index. With matching ACTIVE and the quality not LOST, CHECK changes only the Marker Unit; RING snaps the chainage,
makes the quality SURVEYED, marks the open slices or, beyond half a slice length, breaks the segment of a RUNNING run (R79), which
in segment 65535 ends the run (R80). The marker expected next is the first enabled one after the match in direction order. That the
5 ms are a difference of times modulo 2^48 is the model's reading (log entry 20). What a break in segment 65535 does beyond ending
the run, and that the run state is judged after the flush, is the model's reading (log entries 14 and 18). -/
def Obligations.MatchedEdgeConfirmsOrSnaps : Prop :=
  ∀ (s : State) (m : Nat) (e : MarkerEntry), matchedMarker s (s.chu.chainage / 1000) = some (m, e) →
    let c := s.chu.chainage / 1000
    let enabled := fun (i : Nat) => (s.mku.table[i]?).any (·.enabled)
    let next := match s.chu.direction with
      | none => none
      | some .increasing => (List.range 256).find? fun i => decide (m < i) && enabled i
      | some .decreasing => (List.range 256).reverse.find? fun i => decide (i < m) && enabled i
    let delta : Int := (e.surveyed : Int) - c
    let jump : Bool := decide (s.setup.sliceLength / 2 < delta.natAbs)
    let logged := fun (x : Int) (r : CaptureResult) => { s.mku with
      lastEdge := some s.timebase, missCount := 0, nextExpected := next, captureTotal := s.mku.captureTotal + 1,
      log := (⟨s.timebase, c, some m, x, r⟩ :: s.mku.log).take 16 }
    (s.mku.table[m]? = some e ∧ e.enabled = true ∧ delta.natAbs ≤ e.window ∧
      ∀ (j : Nat) (f : MarkerEntry), s.mku.table[j]? = some f → f.enabled = true →
        delta.natAbs < ((f.surveyed : Int) - c).natAbs ∨ (delta.natAbs = ((f.surveyed : Int) - c).natAbs ∧ m ≤ j)) ∧
    ((∀ t, s.mku.lastEdge = some t → 5000 ≤ (s.timebase - t).toNat) → s.locks.markers = none → s.mku.suspended = false →
      s.chu.quality ≠ .lost →
      (e.kind = .check → exec .markEdge s = .next (raiseAll .markerCapture { s with mku := logged 0 .checked })) ∧
      (e.kind = .ring →
        ∃ t, exec .markEdge s = .next t ∧
          t.chu = { s.chu with chainage := e.surveyed * 1000, remainder := 0, travel := 0, quality := .surveyed } ∧
          t.mku = logged delta (if jump then .appliedJump else .applied) ∧
          (∀ p, outstanding .markerCapture (t.port p) = true) ∧
          (s.slb.run ≠ .running → t.slb.segment = s.slb.segment ∧ t.slb.run = s.slb.run) ∧
          (s.slb.run = .running → jump = true →
            t.slb.openSlices = [] ∧ t.slb.segment = (if s.slb.segment = 65535 then s.slb.segment else s.slb.segment + 1) ∧
            t.slb.run = (if s.slb.segment ≠ 65535 then .running else
              if s.slb.openSlices = [] ∧ s.slb.pendingSlices = [] then .idle else .draining) ∧
            (s.slb.segment = 65535 → ∀ p, outstanding .runState (t.port p) = true) ∧ t.slb.direction = s.chu.direction ∧
            ∀ p, outstanding .segmentBreak (t.port p) = true) ∧
          (jump = false → t.slb.segment = s.slb.segment ∧ ∀ x ∈ t.slb.openSlices, x.header.flags.corrected = true) ∧
          t.head1 = s.head1 ∧ t.head2 = s.head2 ∧ t.scv = s.scv ∧ t.env = s.env ∧ t.locks = s.locks ∧ t.setup = s.setup))

/-! ## Runs -/

/-- R74: START RUN from an IDLE slot: the lock, the run state and the two NOT_READY conditions are judged in that order; otherwise
the run begins. -/
def Obligations.StartRunBeginsOrIsRefused : Prop :=
  ∀ (p : PortId) (s : State), (s.port p).slot = .idle →
    (s.locks.setup ≠ some p → exec (.startRun p) s = .next (onlyAnswer p .lockRequired 0x10 [] s)) ∧
    (s.locks.setup = some p → s.slb.run ≠ .idle → exec (.startRun p) s = .next (onlyAnswer p .runActive 0x10 [] s)) ∧
    (s.locks.setup = some p → s.slb.run = .idle →
      (s.chu.quality = .lost ∨ s.setup.head1.enable = false ∧ s.setup.head2.enable = false) →
      exec (.startRun p) s = .next (onlyAnswer p .notReady 0x10 [] s)) ∧
    (s.locks.setup = some p → s.slb.run = .idle → s.chu.quality ≠ .lost →
      (s.setup.head1.enable = true ∨ s.setup.head2.enable = true) →
      ∃ t, exec (.startRun p) s = .next t ∧
        t.slb = { s.slb with
          run := .running, runNumber := s.slb.runNumber + 1, segment := 0, direction := s.chu.direction, lastOpened := none,
          lastClosed := none, carriedSkipped := 0, carriedOverruns := 0, stale1 := false, stale2 := false } ∧
        (t.port p).slot = .ready { status := .ok, echo := 0x10, payload := [] } ∧
        (∀ q, outstanding .runState (t.port q) = true) ∧
        ((s.head1.state ≠ .locked ∧ s.head2.state ≠ .locked) → t.adv.advice.level = .stop ∧ t.adv.advice.noHead = true) ∧
        t.adv.stopLatch = s.adv.stopLatch ∧ t.chu = s.chu ∧ t.mku = s.mku ∧ t.pst = s.pst ∧ t.env = s.env ∧ t.scv = s.scv ∧
        t.head1 = s.head1 ∧ t.head2 = s.head2 ∧ t.locks = s.locks ∧ t.signals = s.signals ∧ t.setup = s.setup)

/-- R75, R95: STOP RUN from an IDLE slot: in RUNNING every open slice is closed FLUSHED, rearmost first, behind the pending ones,
and the run goes to DRAINING, or to IDLE with an empty queue; in the other run states it has no effect. R93, R128: what a close
makes of a slice: the flag of its manner, THIN for a present head part with too few revolutions, PROVISIONAL for the edit mark, the
close time, and the sectors judged against the radii of its profile as they stand. R92, R94: the close test closes the open slices
by passage as far as every LOCKED head has passed them, a head standing at its live head chainage or, where that lies behind, at the
snapshot of its open revolution. The moment of a close test that finds a slice open is kept, which is the model's own (log entry
28). -/
def Obligations.StopRunFlushesAndEndsTheRun : Prop :=
  (∀ (p : PortId) (s : State), (s.port p).slot = .idle →
    (s.slb.run ≠ .running → exec (.stopRun p) s = .next (onlyAnswer p .ok 0x11 [] s)) ∧
    (s.slb.run = .running →
      ∃ t, exec (.stopRun p) s = .next t ∧ t.slb.openSlices = [] ∧
        t.slb.pendingSlices = s.slb.pendingSlices ++ s.slb.openSlices.map (closedSlice .flush s) ∧
        t.slb.run = (if s.slb.openSlices = [] ∧ s.slb.pendingSlices = [] then .idle else .draining) ∧
        t.slb.runNumber = s.slb.runNumber ∧ t.slb.segment = s.slb.segment ∧ t.slb.direction = s.slb.direction ∧
        (∀ q, outstanding .runState (t.port q) = true) ∧
        (t.port p).slot = .ready { status := .ok, echo := 0x11, payload := [] } ∧
        t.chu = s.chu ∧ t.mku = s.mku ∧ t.env = s.env ∧ t.scv = s.scv ∧ t.head1 = s.head1 ∧ t.head2 = s.head2 ∧
        t.locks = s.locks ∧ t.signals = s.signals ∧ t.setup = s.setup)) ∧
  (∀ (kind : CloseKind) (s : State) (x : OpenSlice),
    let c := closedSlice kind s x
    let thin : Bool := (x.header.part1.any fun q => decide (q.revolutions < s.setup.minRevs)) ||
      x.header.part2.any fun q => decide (q.revolutions < s.setup.minRevs)
    c.header = { x.header with flags := { x.header.flags with
      forced := decide (kind = .forced), flushed := decide (kind = .flush), thin := thin, provisional := x.editMark } } ∧
    c.closeTime = s.timebase ∧
    (∀ k, (hk : k < 64) → c.sectors[k] =
      judgeSector ((s.env.radii[64 * x.header.zone.profile + k]?).getD 0) x.header.zone.margin x.header.zone.confirm x.sectors[k]) ∧
    c.cls = sliceClass c.sectors.toList ∧ c.worstSector = (worstOf c.sectors.toList).map Prod.fst ∧
    c.worstClearance = ((worstOf c.sectors.toList).map Prod.snd).getD 0) ∧
  (∀ s : State,
    let passed := fun (x : OpenSlice) => [HeadId.h1, .h2].all fun h =>
      let live : Nat := (clampInt 0 999999999 ((s.chu.chainage / 1000 : Nat) +
        (if s.setup.orientation = .forward then 1 else -1) * (s.setup.head h).offset)).toNat
      let start := ((s.head h).openRev.map (·.headChainage)).getD live
      decide ((s.head h).state ≠ .locked) || match x.header.direction with
        | .increasing => decide ((x.header.index + 1) * s.setup.sliceLength ≤ min live start)
        | .decreasing => decide (max live start < x.header.index * s.setup.sliceLength)
    let t := closeTest s
    t.slb.openSlices = s.slb.openSlices.dropWhile passed ∧
    t.slb.pendingSlices = s.slb.pendingSlices ++ (s.slb.openSlices.takeWhile passed).map (closedSlice .passage s) ∧
    t.slb.lastClosed = (match (s.slb.openSlices.takeWhile passed).getLast? with
      | none => s.slb.lastClosed
      | some x => some x.header.index) ∧
    t.slb.run = s.slb.run ∧ t.slb.segment = s.slb.segment ∧ t.slb.lastOpened = s.slb.lastOpened ∧
    t.slb.lastTest = (if s.slb.openSlices = [] then s.slb.lastTest else some s.timebase) ∧
    t.chu = s.chu ∧ t.mku = s.mku ∧ t.env = s.env ∧ t.scv = s.scv ∧ t.head1 = s.head1 ∧ t.head2 = s.head2 ∧
    t.locks = s.locks ∧ t.signals = s.signals ∧ t.setup = s.setup)

/-- R77, R139: ABORT RUN from an IDLE slot: in RUNNING and DRAINING the queue is discarded, no record is formed, commit blocked
returns to no, and the stop latch stands; in IDLE nothing changes. That a commit which waits or holds the store ends with the abort,
and that the store it held goes at once to the next waiting port in rotation (R149), is the model's choice (log entry 30). -/
def Obligations.AbortRunDiscardsTheQueue : Prop :=
  ∀ (p : PortId) (s : State), (s.port p).slot = .idle →
    (s.slb.run = .idle → exec (.abortRun p) s = .next (onlyAnswer p .ok 0x12 [] s)) ∧
    (s.slb.run ≠ .idle →
      ∃ t, exec (.abortRun p) s = .next t ∧
        t.slb = { s.slb with
          run := .idle, pendingSlices := [], openSlices := [], carriedSkipped := 0, carriedOverruns := 0, stale1 := false,
          stale2 := false } ∧
        (let u := { s.pst with commitWaiting := false, commitBlocked := false, testRefused := false, retryKept := false }
         t.pst = if s.pst.holder = .commitPath then (match nextWaiting s with
           | none => { u with holder := .none }
           | some q => { u with holder := .port q, lastGranted := q }) else u) ∧
        t.adv.stopLatch = s.adv.stopLatch ∧ t.adv.lastStop = s.adv.lastStop ∧
        (∀ q, outstanding .runState (t.port q) = true) ∧
        (t.port p).slot = .ready { status := .ok, echo := 0x12, payload := [] } ∧
        t.chu = s.chu ∧ t.mku = s.mku ∧ t.env = s.env ∧ t.scv = s.scv ∧ t.head1 = s.head1 ∧ t.head2 = s.head2 ∧
        t.locks = s.locks ∧ t.signals = s.signals ∧ t.setup = s.setup)

/-! ## Slices and sectors -/

/-- R76, R81, R83: what becomes of a delivered revolution that is not binned: it is discarded without a count, or as LATE, or as an
overrun. LATE are a stale one in RUNNING, an index at or behind the last closed one, and with 48 slices open an index behind the
rearmost open slice. That a stale one is discarded without a count when the run is not RUNNING, and as LATE while the direction is
UNDETERMINED or the quality LOST, is the model's reading (log entry 4). -/
def Obligations.RevolutionsNotBinnedAreDiscarded : Prop :=
  ∀ (v : Delivery) (s : State),
    let i := v.headChainage / s.setup.sliceLength
    let late := s.setHead v.head (counted .late (s.head v.head))
    (s.slb.run ≠ .running → deliver v s = s) ∧
    (s.slb.run = .running → staleMark s v.head = true → deliver v s = setStale late v.head false) ∧
    (s.slb.run = .running → (s.slb.direction = none ∨ s.chu.quality = .lost) → staleMark s v.head = false → deliver v s = s) ∧
    (∀ d, s.slb.direction = some d → s.slb.run = .running → s.chu.quality ≠ .lost → staleMark s v.head = false →
      (∀ x ∈ s.slb.openSlices, x.header.index ≠ i) →
      (∀ k, s.slb.lastClosed = some k → aheadOf d i k = false → deliver v s = late) ∧
      ((∀ k, s.slb.lastClosed = some k → aheadOf d i k = true) →
        (64 ≤ s.slb.openSlices.length + s.slb.pendingSlices.length →
          deliver v s =
            let t := { s with slb := { s.slb with carriedOverruns := min 65535 (s.slb.carriedOverruns + 1) } }
            if s.slb.carriedOverruns = 0 then raiseAll .overrun t else t) ∧
        (∀ x rest, s.slb.openSlices = x :: rest → s.slb.openSlices.length = 48 →
          s.slb.openSlices.length + s.slb.pendingSlices.length < 64 → aheadOf d x.header.index i = true → deliver v s = late)))

/-- R83, R85, R88: a revolution taken for binning goes into the open slice of its index, or into one that opens for it, after a
force close of the rearmost slice with 48 open; the binning is followed by the close test, and its discarded samples are counted for
the head. R93: what a close does to the queue. R86, R87, R101, R125, R128: what a slice holds at its opening, its zone looked up by
its lower bound, its place in the open part in index order, and what the opening leaves: the other open slices stand and both
carried counts are 0. R88, R89: what a binned revolution adds to its slice: the head part of its head takes the revolution, its
sample counts, its rate if lower and its cant, CANT_HELD and CANT_CLAMPED follow its snapshot, its sectors take the samples one by
one (R102, R113), and the rest of the slice stands. The radii that the force close and the samples read are those of tablesAt, which
BinningCountsEverySampleOnce describes; that a write of a radius in the microsecond of the delivery, in front of it, may fall at any
of these places is the model's choice (log entry 26). -/
def Obligations.SlicesOpenAndTakeRevolutions : Prop :=
  (∀ (v : Delivery) (d : Direction) (s : State), s.slb.direction = some d → s.slb.run = .running → s.chu.quality ≠ .lost →
    staleMark s v.head = false →
    let i := v.headChainage / s.setup.sliceLength
    ((∃ x ∈ s.slb.openSlices, x.header.index = i) → deliver v s = binRevolution v i s) ∧
    ((∀ x ∈ s.slb.openSlices, x.header.index ≠ i) → (∀ k, s.slb.lastClosed = some k → aheadOf d i k = true) →
      s.slb.openSlices.length + s.slb.pendingSlices.length < 64 →
      (s.slb.openSlices.length ≠ 48 → deliver v s = binRevolution v i (openSlice d i s)) ∧
      (∀ x rest, s.slb.openSlices = x :: rest → s.slb.openSlices.length = 48 → aheadOf d x.header.index i = false →
        deliver v s = binRevolution v i (openSlice d i { closeRearmost .forced { s with env := tablesAt s 0 } with env := s.env })))) ∧
  (∀ (v : Delivery) (i : Nat) (x : OpenSlice) (s : State), x ∈ s.slb.openSlices → x.header.index = i →
    (s.slb.openSlices.map (·.header.index)).Nodup →
    let e := fun k => tablesAt s (k + 1)
    binRevolution v i s = closeTest (countEvents v.head .discardedSamples (binInto s.setup e v x).2.discarded
      { s with
        freeCount := if s.slb.radiusWrites = [] then s.freeCount else s.freeCount + 1,
        slb := { s.slb with
          radiusWrites := [],
          openSlices := s.slb.openSlices.map fun y => if y.header.index = i then (binInto s.setup e v y).1 else y } })) ∧
  (∀ (kind : CloseKind) (x : OpenSlice) (rest : List OpenSlice) (s : State), s.slb.openSlices = x :: rest →
    let t := closeRearmost kind s
    t.slb = { s.slb with
      openSlices := rest, pendingSlices := s.slb.pendingSlices ++ [closedSlice kind s x], lastClosed := some x.header.index } ∧
    (s.slb.pendingSlices ≠ [] → t.pst = s.pst) ∧
    (s.slb.pendingSlices = [] → t.pst.records = s.pst.records ∧
      (storeFree s = true → t.pst.holder = .commitPath) ∧ (storeFree s = false → t.pst.commitWaiting = true))) ∧
  (∀ (d : Direction) (i : Nat) (s : State),
    let between : Nat := match s.slb.lastOpened with
      | none => 0
      | some k => if aheadOf d i k then (max i k - min i k) - 1 else 0
    ∃ x front back, s.slb.openSlices = front ++ back ∧ (openSlice d i s).slb.openSlices = front ++ x :: back ∧
      (∀ y ∈ front, aheadOf d i y.header.index = true) ∧ (∀ y, back.head? = some y → aheadOf d i y.header.index = false) ∧
      x.header.index = i ∧ x.header.run = s.slb.runNumber ∧ x.header.segment = s.slb.segment ∧ x.header.direction = d ∧
      x.header.openTime = s.timebase ∧ x.header.zone = lookupZone s (i * s.setup.sliceLength) ∧
      x.header.lowest = s.chu.quality ∧ x.header.part1 = none ∧ x.header.part2 = none ∧
      x.header.skipped = min 65535 (s.slb.carriedSkipped + between) ∧ x.header.overruns = s.slb.carriedOverruns ∧
      x.header.flags = ⟨false, false, false, decide (0 < s.slb.carriedOverruns), false, false, false, false⟩ ∧
      (∀ k : Nat, (hk : k < 64) → x.sectors[k] = ⟨none, 0, 0⟩) ∧ (x.editMark = true ↔ s.locks.envelope ≠ none) ∧
      (openSlice d i s).slb.carriedSkipped = 0 ∧ (openSlice d i s).slb.carriedOverruns = 0 ∧
      (openSlice d i s).slb.lastOpened = some (match s.slb.lastOpened with
        | none => i
        | some k => if aheadOf d i k then i else k)) ∧
  (∀ (u : Setup) (e : Nat → EnvelopeTables) (v : Delivery) (x : OpenSlice),
    let y := (binInto u e v x).1
    let r := binSamples e x.header.zone.profile (sampleSetup u v.head v.rate v.cant) 0 v.samples ⟨x.sectors, 0, 0⟩
    let part := fun (q : Option HeadPart) => some (match q with
      | none => HeadPart.mk 1 r.valid r.discarded v.rate v.cant
      | some q => HeadPart.mk (q.revolutions + 1) (q.valid + r.valid)
          (q.discarded + r.discarded)
          (if rateCode q.lowestRate < rateCode v.rate then v.rate else q.lowestRate) (q.cantSum + v.cant))
    (binInto u e v x).2 = r ∧ y.sectors = r.sectors ∧ r.valid + r.discarded = v.samples.length ∧ y.editMark = x.editMark ∧
    y.header = { x.header with
      part1 := if v.head = .h1 then part x.header.part1 else x.header.part1,
      part2 := if v.head = .h2 then part x.header.part2 else x.header.part2,
      flags := { x.header.flags with
        cantHeld := x.header.flags.cantHeld || v.cantInvalid, cantClamped := x.header.flags.cantClamped || v.cantClamped } })

/-- R125, R126, R129: the zone of a key: the lowest-numbered enabled entry that holds it while lookup is ACTIVE, DEFAULT (32)
otherwise. The validation finds no fault exactly when the enabled entries have their start below their end and no two of them
overlap, and otherwise finds the lowest-numbered entry that fails. -/
def Obligations.ZoneLookupTakesTheFirstEntryThatHolds : Prop :=
  ∀ (s : State) (key : Nat),
    let holds := fun i => ∃ z, s.env.zones[i]? = some z ∧ z.enabled = true ∧ z.start ≤ key ∧ key < z.stopAt
    let default : ZoneChoice :=
      ⟨32, s.env.default.profile, s.env.default.margin, s.env.default.confirm, s.env.default.stop⟩
    let fails := fun (i : Nat) => ∃ z, s.env.zones[i]? = some z ∧ z.enabled = true ∧ (z.stopAt ≤ z.start ∨
      ∃ (j : Nat) (y : ZoneEntry), j < i ∧ s.env.zones[j]? = some y ∧ y.enabled = true ∧ y.start < y.stopAt ∧
        y.start < z.stopAt ∧ z.start < y.stopAt)
    (∀ i, zoneListFault s.env = some i ↔ fails i ∧ ∀ j, j < i → ¬fails j) ∧
    (s.locks.envelope ≠ none ∨ s.env.suspended = true → lookupZone s key = default) ∧
    (s.locks.envelope = none → s.env.suspended = false →
      ((∀ i, ¬holds i) → lookupZone s key = default) ∧
      (∀ (i : Nat) (z : ZoneEntry), s.env.zones[i]? = some z → holds i → (∀ j, j < i → ¬holds j) →
        lookupZone s key = ⟨i, z.profile, z.margin, z.confirm, z.stop⟩)) ∧
    (zoneListFault s.env = none ↔
      ∀ (i : Nat) (z : ZoneEntry), s.env.zones[i]? = some z → z.enabled = true →
        z.start < z.stopAt ∧
        ∀ (j : Nat) (y : ZoneEntry), j < i → s.env.zones[j]? = some y → y.enabled = true →
          y.stopAt ≤ z.start ∨ z.stopAt ≤ y.start)

/-- R104, R105, R106, R107, R108, R109, R110: a sample of a head at index k is valid exactly when its raw range and intensity, its
corrected range and its sector pass. Its angle before mirroring lies below 2048, and its sector, the angle mirrored by the
orientation and divided by 32, lies below 64; the cant offset is the cant snapshot in angle units, rounded half away from zero. -/
def Obligations.SampleIsValidExactlyWhenEveryStagePasses : Prop :=
  ∀ (u : Setup) (h : HeadId) (rate : Rate) (cant : Int) (k rc sector : Nat) (x : Sample),
    let c := sampleSetup u h rate cant
    let q : Int := cant * 256
    let m : Int := (q.natAbs / 4500 + (if 2250 ≤ q.natAbs % 4500 then 1 else 0) : Nat)
    let offset : Int := if q < 0 then -m else m
    let a : Nat := (((k * (2048 / rateSamples rate) + (u.head h).phase : Nat) : Int) + offset).emod 2048 |>.toNat
    let b : Nat := if u.orientation = .forward then a else (2048 - a) % 2048
    a < 2048 ∧ trackAngle c k = a ∧ sampleSector c k = b / 32 ∧ b / 32 < 64 ∧
    (-1000 ≤ cant → cant ≤ 1000 → -57 ≤ offset ∧ offset ≤ 57) ∧
    (judgeSample c k x = some (rc, sector) ↔
      x.range.toNat ≠ 0 ∧ x.range.toNat ≠ 65535 ∧ (u.head h).intensityFloor ≤ x.intensity.toNat ∧
      (rc : Int) = max 0 (min 65535 ((x.range.toNat : Int) + (u.head h).zero)) ∧ u.rangeMin ≤ rc ∧ rc ≤ u.rangeMax ∧
      sector = b / 32 ∧ (u.head h).shadow.getLsbD sector = false)

/-- R111, R112, R113: a binned revolution takes its samples one by one, in ascending index. An invalid one only counts as discarded.
A valid one counts as valid, and its sector takes it: the hits rise by one, saturating at 255, the minimum range is the lower of the
two, and the intrusions rise by one, saturating at 255, when the radius of the sector, as it stands at that sample's binning, is
above 0 and the corrected range lies below it. So each sample is counted once, and every sector's minimum is present exactly when it
has hits. R113: the tables that a place of a delivery reads are the present ones with the newest writes of a radius of the moment
taken back, fewer of them at each later place: what comes before a write is judged against the old radius, what comes after it
against the new one. Which writes are still to come at a place is free (log entry 26). -/
def Obligations.BinningCountsEverySampleOnce : Prop :=
  (∀ (e : Nat → EnvelopeTables) (profile : Nat) (c : SampleSetup) (k : Nat) (xs : List Sample) (r : BinResult),
    binSamples e profile c k [] r = r ∧
    (∀ x, judgeSample c k x = none →
      binSamples e profile c k (x :: xs) r = binSamples e profile c (k + 1) xs { r with discarded := r.discarded + 1 }) ∧
    (∀ x rc sector, judgeSample c k x = some (rc, sector) → (hs : sector < 64) →
      let old := r.sectors[sector]
      let radius := ((e k).radii[64 * profile + sector]?).getD 0
      let minimum := match old.minimum with
        | none => rc
        | some m => min m rc
      let new : SectorContents := {
        minimum := some minimum, hits := min 255 (old.hits + 1),
        intrusions := if 0 < radius ∧ rc < radius then min 255 (old.intrusions + 1) else old.intrusions }
      binSamples e profile c k (x :: xs) r =
        binSamples e profile c (k + 1) xs ⟨r.sectors.set sector new, r.valid + 1, r.discarded⟩) ∧
    (binSamples e profile c k xs r).valid + (binSamples e profile c k xs r).discarded = r.valid + r.discarded + xs.length ∧
    ((∀ i (hi : i < 64), (r.sectors[i].minimum.isSome = decide (0 < r.sectors[i].hits)) ∧ r.sectors[i].hits ≤ 255 ∧
        r.sectors[i].intrusions ≤ 255) →
      ∀ i (hi : i < 64), ((binSamples e profile c k xs r).sectors[i].minimum.isSome =
          decide (0 < (binSamples e profile c k xs r).sectors[i].hits)) ∧
        (binSamples e profile c k xs r).sectors[i].hits ≤ 255 ∧ (binSamples e profile c k xs r).sectors[i].intrusions ≤ 255)) ∧
  (∀ s : State, ∃ n : Nat → Nat, ∀ k, n (k + 1) ≤ n k ∧ n k ≤ s.slb.radiusWrites.length ∧
    tablesAt s k = { s.env with
      radii := (s.slb.radiusWrites.take (n k)).foldl (fun r w => r.setIfInBounds w.index w.before) s.env.radii })

/-- R103, R113: two revolutions of the two heads binned into one slice leave the same slice, and the same counts of valid and of
discarded samples each, whichever was binned first, each sample being judged against the radius as it stands at its own binning; and
the sector contents do not depend on the order for any two revolutions. -/
def Obligations.BinningOrderDoesNotMatter : Prop :=
  (∀ (u : Setup) (e f : Nat → EnvelopeTables) (v w : Delivery) (x : OpenSlice), v.head ≠ w.head →
    (binInto u e v (binInto u f w x).1).1 = (binInto u f w (binInto u e v x).1).1 ∧
    (binInto u e v (binInto u f w x).1).2.valid = (binInto u e v x).2.valid ∧
    (binInto u e v (binInto u f w x).1).2.discarded = (binInto u e v x).2.discarded) ∧
  (∀ (e f : Nat → EnvelopeTables) (profile : Nat) (c d : SampleSetup) (xs ys : List Sample) (z : Vector SectorContents 64),
    (binSamples f profile d 0 ys ⟨(binSamples e profile c 0 xs ⟨z, 0, 0⟩).sectors, 0, 0⟩).sectors =
      (binSamples e profile c 0 xs ⟨(binSamples f profile d 0 ys ⟨z, 0, 0⟩).sectors, 0, 0⟩).sectors)

/-- R115, R116: the first row of Table 6-7 that holds gives a sector its state and clearance at the close; the hits and intrusions
of the result are those of the sector contents in every row. -/
def Obligations.SectorStateFollowsTheTable : Prop :=
  ∀ (e margin confirm : Nat) (x : SectorContents), e ≤ 65535 → margin ≤ 4095 →
    (x.hits = 0 → judgeSector e margin confirm x = ⟨.noData, x.hits, x.intrusions, 0⟩) ∧
    (x.hits ≠ 0 → e = 0 → judgeSector e margin confirm x = ⟨.unchecked, x.hits, x.intrusions, 0⟩) ∧
    (∀ m, x.hits ≠ 0 → e ≠ 0 → x.minimum = some m → m ≤ 65535 →
      let g : Int := max (-32768) (min 32767 ((m : Int) - e))
      judgeSector e margin confirm x =
        (if confirm ≤ x.intrusions then ⟨.infringe, x.hits, x.intrusions, g⟩
        else if 1 ≤ x.intrusions then ⟨.suspect, x.hits, x.intrusions, g⟩
        else if g < margin then ⟨.warn, x.hits, x.intrusions, g⟩
        else ⟨.clear, x.hits, x.intrusions, g⟩) ∧
      (g < margin ↔ (m : Int) - e < margin) ∧ -65535 ≤ (m : Int) - e ∧ (m : Int) - e ≤ 65534)

/-- R118, R119: the slice class is the most severe sector state; the worst sector has the lowest clearance among the eligible
sectors, the lowest number of equal ones, and there is none exactly when no sector is eligible. -/
def Obligations.ClassAndWorstSectorAreTheExtremes : Prop :=
  ∀ rs : List SectorResult,
    (∀ r ∈ rs, sectorStateCode r.state ≤ sectorStateCode (sliceClass rs)) ∧
    (sliceClass rs = .noData ∨ ∃ r ∈ rs, r.state = sliceClass rs) ∧
    (worstOf rs = none ↔ ∀ r ∈ rs, r.state = .noData ∨ r.state = .unchecked) ∧
    (∀ k g, worstOf rs = some (k, g) →
      ∃ r, rs[k]? = some r ∧ r.clearance = g ∧ r.state ≠ .noData ∧ r.state ≠ .unchecked ∧
        ∀ (j : Nat) (q : SectorResult), rs[j]? = some q → q.state ≠ .noData → q.state ≠ .unchecked →
          g < q.clearance ∨ (g = q.clearance ∧ k ≤ j))

/-! ## Profile Store -/

/-- R135, R137, R138, R140, R149: a commit that its retention test allowed appends the record of the oldest pending slice under the
next sequence number and takes the slice from the queue. With the store full it evicts the oldest record first: a cursor that stood
there moves one on and counts a miss, and RECORDS_MISSED is raised in that port's latch. The events of the commit follow the
cursors, the class and STORE_HIGH, and each latch bit stays as it was where its event is not raised: DATA_AVAILABLE is raised only
for a port whose cursor stood at the new number, STORE_HIGH_REACHED only at the step from STORE_HIGH − 1 to STORE_HIGH. R76: the
last slice of a DRAINING run takes it to IDLE with RUN_STATE. The release grants the store to the next waiting port, and the commit
path asks for it again while a slice is pending. That a cursor which took RETAIN mode after the test is carried past the evicted
record like a FOLLOW one is the model's reading (log entry 9). Table 11-6, R97, R185: what the 480 bytes of a record hold, byte by
byte. -/
def Obligations.CommitAppendsTheOldestPendingSlice : Prop :=
  (∀ (x : PendingSlice) (rest : List PendingSlice) (s : State), s.slb.pendingSlices = x :: rest → s.pst.holder = .commitPath →
    s.pst.testRefused = false → s.pst.records.length ≤ 2048 →
    let full : Bool := decide (s.pst.records.length = 2048)
    let drained : Bool := decide (s.slb.run = .draining ∧ s.slb.openSlices = [] ∧ rest = [])
    let kept := if full then s.pst.records.tail else s.pst.records
    ∃ t, exec .commit s = .next t ∧
      t.pst.records = kept ++ [recordImage s.setup.sliceLength s.pst.nextSeq x] ∧ t.pst.nextSeq = s.pst.nextSeq + 1 ∧
      t.slb.pendingSlices = rest ∧ t.slb.openSlices = s.slb.openSlices ∧
      (∀ p,
        (full = true → (s.pst.cursor p).position = s.pst.nextSeq - 2048 →
          t.pst.cursor p = { s.pst.cursor p with
            position := s.pst.nextSeq - 2048 + 1, missed := min 65535 ((s.pst.cursor p).missed + 1) } ∧
          outstanding .recordsMissed (t.port p) = true) ∧
        (full = false ∨ (s.pst.cursor p).position ≠ s.pst.nextSeq - 2048 →
          t.pst.cursor p = s.pst.cursor p ∧ outstanding .recordsMissed (t.port p) = outstanding .recordsMissed (s.port p)) ∧
        ((s.pst.cursor p).position = s.pst.nextSeq → outstanding .dataAvailable (t.port p) = true) ∧
        ((s.pst.cursor p).position ≠ s.pst.nextSeq →
          outstanding .dataAvailable (t.port p) = outstanding .dataAvailable (s.port p)) ∧
        outstanding .recordInfringe (t.port p) = (decide (x.cls = .infringe) || outstanding .recordInfringe (s.port p)) ∧
        outstanding .recordWarn (t.port p) =
          (decide (x.cls = .warn ∨ x.cls = .suspect) || outstanding .recordWarn (s.port p)) ∧
        outstanding .storeHighReached (t.port p) =
          ((!full && decide (s.pst.records.length + 1 = s.setup.storeHigh)) || outstanding .storeHighReached (s.port p)) ∧
        outstanding .runState (t.port p) = (drained || outstanding .runState (s.port p)) ∧
        (∀ f : Event, f ∉ [.recordsMissed, .dataAvailable, .recordInfringe, .recordWarn, .storeHighReached, .runState,
          .adviceChange] → outstanding f (t.port p) = outstanding f (s.port p))) ∧
      t.slb.run = (if drained then .idle else s.slb.run) ∧
      (∀ q, nextWaiting s = some q → t.pst.holder = .port q ∧ t.pst.lastGranted = q ∧
        t.pst.commitWaiting = (if rest = [] then s.pst.commitWaiting else true)) ∧
      (nextWaiting s = none → rest = [] → t.pst.holder = .none ∧ t.pst.commitWaiting = s.pst.commitWaiting) ∧
      (nextWaiting s = none → rest ≠ [] → t.pst.holder = .commitPath ∧ t.pst.commitWaiting = false) ∧
      t.chu = s.chu ∧ t.mku = s.mku ∧ t.env = s.env ∧ t.scv = s.scv ∧ t.head1 = s.head1 ∧ t.head2 = s.head2 ∧
      t.locks = s.locks ∧ t.signals = s.signals ∧ t.setup = s.setup) ∧
  (∀ (l : Nat) (n : SeqNo) (x : PendingSlice),
    let h := x.header
    let at' := fun (k size : Nat) => ((recordImage l n x).drop k).take size
    let bit := fun (k : Nat) (b : Bool) => if b then 2 ^ k else 0
    let f := h.flags
    let part := fun (q : Option HeadPart) => match q with
      | none => List.replicate 16 (0 : Byte)
      | some q => bytesOf 2 (min 65535 q.revolutions : Nat) ++ bytesOf 2 (min 65535 q.valid : Nat) ++
          bytesOf 2 (min 65535 q.discarded : Nat) ++ bytesOf 1 (rateCode q.lowestRate) ++
          bytesOf 2 (roundDiv q.cantSum q.revolutions) ++ List.replicate 7 0
    (recordImage l n x).length = 480 ∧ at' 0 4 = bytesOf 4 n.toNat ∧ at' 4 2 = bytesOf 2 h.run.toNat ∧
    at' 6 2 = bytesOf 2 h.segment.toNat ∧ at' 8 4 = bytesOf 4 h.index ∧ at' 12 4 = bytesOf 4 (h.index * l : Nat) ∧
    at' 16 2 = bytesOf 2 l ∧
    at' 18 2 = bytesOf 2 (bit 0 f.forced + bit 1 f.flushed + bit 2 f.corrected + bit 3 f.overrun + bit 4 f.thin + bit 5 f.cantHeld +
      bit 6 f.cantClamped + bit 7 f.provisional + bit 15 (decide (h.direction = .decreasing)) : Nat) ∧
    at' 20 1 = bytesOf 1 (sectorStateCode x.cls) ∧ at' 21 1 = bytesOf 1 (x.worstSector.getD 255 : Nat) ∧
    at' 22 2 = bytesOf 2 x.worstClearance ∧ at' 24 1 = bytesOf 1 h.zone.index ∧ at' 25 1 = bytesOf 1 h.zone.profile ∧
    at' 26 2 = bytesOf 2 h.zone.margin ∧ at' 28 1 = bytesOf 1 h.zone.confirm ∧ at' 29 1 = bytesOf 1 (qualityCode h.lowest) ∧
    at' 30 2 = bytesOf 2 h.skipped ∧ at' 32 2 = bytesOf 2 h.overruns ∧ at' 34 6 = bytesOf 6 h.openTime.toNat ∧
    at' 40 6 = bytesOf 6 x.closeTime.toNat ∧
    at' 46 1 = bytesOf 1 (bit 0 h.part1.isSome + bit 1 h.part2.isSome : Nat) ∧ at' 47 17 = List.replicate 17 0 ∧
    at' 64 16 = part h.part1 ∧ at' 80 16 = part h.part2 ∧
    ∀ k, (hk : k < 64) → at' (96 + 6 * k) 6 =
      bytesOf 1 (sectorStateCode x.sectors[k].state) ++ bytesOf 1 x.sectors[k].hits ++ bytesOf 1 x.sectors[k].intrusions ++ [0] ++
        bytesOf 2 x.sectors[k].clearance)

/-- R137, R139: the retention test is made when the commit path is granted the store: it refuses when the store is full and a RETAIN
cursor stands at the oldest record. A refused commit leaves the queue, the records and the cursors as they were, releases the store
to the next waiting port (R149), and sets commit blocked, or asks again at once when a retry event was kept. While commit blocked is
yes, a read that returns a record, a move of a cursor, a change of mode, a demotion and a PORT RESET make the commit path ask again:
with the store free it is granted the store and tests afresh, and otherwise it waits. Other requests of the store leave it blocked.
A retry event taken while the commit path holds the store is kept. -/
def Obligations.RefusedCommitWaitsForARetry : Prop :=
  (∀ s : State,
    ((grantCommit s).pst.testRefused = true ↔
      s.pst.records.length = 2048 ∧
        ∃ p, (s.pst.cursor p).mode = .retain ∧ (s.pst.cursor p).position = s.pst.nextSeq - 2048) ∧
    (s.pst.holder = .commitPath → s.slb.pendingSlices ≠ [] → s.pst.testRefused = true →
      let u := { s.pst with testRefused := false, retryKept := false }
      let released : ProfileStore := match nextWaiting s with
        | none => { u with holder := .none }
        | some q => { u with holder := .port q, lastGranted := q }
      (s.pst.retryKept = false → exec .commit s = .next { s with pst := { released with commitBlocked := true } }) ∧
      (s.pst.retryKept = true →
        (nextWaiting s ≠ none → exec .commit s = .next { s with pst := { released with commitWaiting := true } }) ∧
        (nextWaiting s = none → exec .commit s = .next (grantCommit { s with pst := released }))))) ∧
  (∀ (p : PortId) (x : Byte) (n : SeqNo) (s : State), s.pst.commitBlocked = true → s.pst.commitWaiting = false →
    let o := ((s.pst.cursor p).position - (s.pst.nextSeq - BitVec.ofNat 32 s.pst.records.length)).toNat
    let idle := (s.port p).slot = .idle
    let asks := fun (c : Instr) => ∃ t, exec c s = .next t ∧ t.pst.commitBlocked = (if storeFree s then false else true) ∧
      (storeFree s = true → t.pst.holder = .commitPath ∧ t.pst.commitWaiting = false ∧ (t.pst.testRefused = true ↔
        t.pst.records.length = 2048 ∧
          ∃ q, (t.pst.cursor q).mode = .retain ∧ (t.pst.cursor q).position = t.pst.nextSeq - 2048)) ∧
      (storeFree s = false → t.pst.commitWaiting = true)
    let stays := fun (c : Instr) => ∃ t, exec c s = .next t ∧ t.pst.commitBlocked = true ∧ t.pst.commitWaiting = false
    (idle → storeFree s = true →
      (o < s.pst.records.length → asks (.readNext p) ∧ (1 ≤ x.toNat → x.toNat ≤ 4 → asks (.readBlock p x))) ∧
      (s.pst.records.length ≤ o → stays (.readNext p) ∧ stays (.readBlock p x)) ∧ stays (.peekRecord p n) ∧
      (x.toNat ≤ 2 → asks (.setCursor p x n)) ∧ (2 < x.toNat → stays (.setCursor p x n)) ∧
      (s.locks.setup = some p → s.slb.run = .idle → asks (.clearStore p))) ∧
    (∀ m, idle → cursorModeOf x = some m →
      ((s.pst.cursor p).mode ≠ m → asks (.setCursorMode p x)) ∧ ((s.pst.cursor p).mode = m → stays (.setCursorMode p x))) ∧
    (linkExpired p s = true →
      ((s.pst.cursor p).mode = .retain → asks (.linkTimeout p)) ∧ ((s.pst.cursor p).mode = .follow → stays (.linkTimeout p))) ∧
    (s.pst.holder ≠ .port p → (∀ q, q ≠ p → portWaiting s q = false) → portWaiting s p = false → asks (.portReset p))) ∧
  (∀ (p : PortId) (x : Byte) (m : CursorMode) (s : State), s.pst.holder = .commitPath → s.pst.commitBlocked = false →
    let keeps := fun (c : Instr) =>
      ∃ t, exec c s = .next t ∧ t.pst.retryKept = true ∧ t.pst.holder = .commitPath ∧ t.pst.testRefused = s.pst.testRefused
    keeps (.portReset p) ∧
    ((s.port p).slot = .idle → cursorModeOf x = some m → (s.pst.cursor p).mode ≠ m → keeps (.setCursorMode p x)) ∧
    (linkExpired p s = true → (s.pst.cursor p).mode = .retain → keeps (.linkTimeout p)))

/-- R142, R143, R136: READ NEXT and READ BLOCK from an IDLE slot while the store is free: EMPTY at newest + 1, otherwise the records
from the cursor on, past which it moves. -/
def Obligations.ReadsAdvanceTheCursor : Prop :=
  ∀ (p : PortId) (count : Byte) (s : State), (s.port p).slot = .idle → storeFree s = true → s.pst.commitBlocked = false →
    s.pst.commitWaiting = false →
    let o := ((s.pst.cursor p).position - (s.pst.nextSeq - BitVec.ofNat 32 s.pst.records.length)).toNat
    let got := fun n => (s.pst.records.drop o).take n
    let moved := fun n => { s with pst := { s.pst.setCursor p { s.pst.cursor p with
      position := (s.pst.cursor p).position + BitVec.ofNat 32 n } with lastGranted := p } }
    (∀ r, s.pst.records[o]? = some r → exec (.readNext p) s = .next (onlyAnswer p .ok 0x20 r (moved 1))) ∧
    (s.pst.records.length ≤ o →
      exec (.readNext p) s = .next (onlyAnswer p .empty 0x20 [] { s with pst := { s.pst with lastGranted := p } })) ∧
    (1 ≤ count.toNat → count.toNat ≤ 4 →
      (s.pst.records.length ≤ o →
        exec (.readBlock p count) s = .next (onlyAnswer p .empty 0x21 [] { s with pst := { s.pst with lastGranted := p } })) ∧
      (o < s.pst.records.length →
        exec (.readBlock p count) s = .next (onlyAnswer p .ok 0x21
          (BitVec.ofNat 8 (got count.toNat).length :: (got count.toNat).flatten) (moved (got count.toNat).length)))) ∧
    (count.toNat = 0 ∨ 4 < count.toNat → exec (.readBlock p count) s = .next (onlyAnswer p .badValue 0x21 [] s))

/-- R144, R145, R136: PEEK RECORD and SET CURSOR NUMBER from an IDLE slot while the store is free: held, newest + 1, above and
below. -/
def Obligations.NumbersArePlacedAgainstTheStore : Prop :=
  ∀ (p : PortId) (n : SeqNo) (s : State), (s.port p).slot = .idle → storeFree s = true → s.pst.commitBlocked = false →
    s.pst.commitWaiting = false →
    let fill := s.pst.records.length
    let oldest := s.pst.nextSeq - BitVec.ofNat 32 fill
    let o := (n - oldest).toNat
    let granted := { s with pst := { s.pst with lastGranted := p } }
    let at' := fun (m : SeqNo) => { s with pst := { s.pst.setCursor p { s.pst.cursor p with position := m } with lastGranted := p } }
    (∀ r, s.pst.records[o]? = some r →
      exec (.peekRecord p n) s = .next (onlyAnswer p .ok 0x22 r granted) ∧
      exec (.setCursor p 2 n) s = .next (onlyAnswer p .ok 0x23 (bytesOf 4 n.toNat) (at' n))) ∧
    (o = fill →
      exec (.peekRecord p n) s = .next (onlyAnswer p .notYet 0x22 [] granted) ∧
      exec (.setCursor p 2 n) s = .next (onlyAnswer p .ok 0x23 (bytesOf 4 n.toNat) (at' n))) ∧
    (fill < o → (n - s.pst.nextSeq).toNat < 2 ^ 31 →
      exec (.peekRecord p n) s = .next (onlyAnswer p .notYet 0x22 [] granted) ∧
      exec (.setCursor p 2 n) s = .next (onlyAnswer p .clamped 0x23 (bytesOf 4 s.pst.nextSeq.toNat) (at' s.pst.nextSeq))) ∧
    (fill < o → 2 ^ 31 ≤ (n - s.pst.nextSeq).toNat →
      exec (.peekRecord p n) s = .next (onlyAnswer p .evicted 0x22 [] granted) ∧
      exec (.setCursor p 2 n) s = .next (onlyAnswer p .clamped 0x23 (bytesOf 4 oldest.toNat) (at' oldest))) ∧
    exec (.setCursor p 0 n) s = .next (onlyAnswer p .ok 0x23 (bytesOf 4 oldest.toNat) (at' oldest)) ∧
    exec (.setCursor p 1 n) s = .next (onlyAnswer p .ok 0x23 (bytesOf 4 s.pst.nextSeq.toNat) (at' s.pst.nextSeq)) ∧
    (∀ x : Byte, 2 < x.toNat → exec (.setCursor p x n) s = .next (onlyAnswer p .badValue 0x23 [] s))

/-- R146, R147: SET CURSOR MODE with no refused commit to retry, and READ CURSOR, whose answer gives the cursor against the store
and clears the missed count. -/
def Obligations.CursorModeAndReport : Prop :=
  ∀ (p : PortId) (mode : Byte) (m : CursorMode) (s : State), (s.port p).slot = .idle →
    (cursorModeOf mode = some m → s.pst.commitBlocked = false → s.pst.holder ≠ .commitPath →
      exec (.setCursorMode p mode) s =
        .next (onlyAnswer p .ok 0x24 [] { s with pst := s.pst.setCursor p { s.pst.cursor p with mode := m } })) ∧
    (1 < mode.toNat → exec (.setCursorMode p mode) s = .next (onlyAnswer p .badValue 0x24 [] s)) ∧
    exec (.readCursor p) s = .next (onlyAnswer p .ok 0x25
      (bytesOf 4 (s.pst.cursor p).position.toNat ++ bytesOf 1 (cursorModeCode (s.pst.cursor p).mode) ++
        bytesOf 2 (s.pst.cursor p).missed ++ bytesOf 2 s.pst.records.length ++
        bytesOf 4 (s.pst.nextSeq - BitVec.ofNat 32 s.pst.records.length).toNat ++ bytesOf 4 (s.pst.nextSeq - 1).toNat ++
        bytesOf 2 (s.pst.records.length -
          ((s.pst.cursor p).position - (s.pst.nextSeq - BitVec.ofNat 32 s.pst.records.length)).toNat : Nat))
      { s with pst := s.pst.setCursor p { s.pst.cursor p with missed := 0 } })

/-- R148: CLEAR STORE: the lock and the run are judged first; in IDLE, with the store free, what each cursor had not read is counted
as missed, the store is emptied and every cursor stands at the next sequence number, which is kept. That lock and run are judged
when the request is taken, also while the store is held, is the model's reading (log entry 16). -/
def Obligations.ClearStoreEmptiesTheStore : Prop :=
  ∀ (p : PortId) (s : State), (s.port p).slot = .idle →
    (s.locks.setup ≠ some p → exec (.clearStore p) s = .next (onlyAnswer p .lockRequired 0x26 [] s)) ∧
    (s.locks.setup = some p → s.slb.run ≠ .idle → exec (.clearStore p) s = .next (onlyAnswer p .runActive 0x26 [] s)) ∧
    (s.locks.setup = some p → s.slb.run = .idle → storeFree s = true → s.pst.commitBlocked = false →
      s.pst.commitWaiting = false →
      ∃ t, exec (.clearStore p) s = .next t ∧ t.pst.records = [] ∧ t.pst.nextSeq = s.pst.nextSeq ∧
        (∀ q,
          let unread := s.pst.records.length -
            ((s.pst.cursor q).position - (s.pst.nextSeq - BitVec.ofNat 32 s.pst.records.length)).toNat
          t.pst.cursor q = { s.pst.cursor q with
            position := s.pst.nextSeq, missed := min 65535 ((s.pst.cursor q).missed + unread) } ∧
          (0 < unread → outstanding .recordsMissed (t.port q) = true) ∧
          (unread = 0 → outstanding .recordsMissed (t.port q) = outstanding .recordsMissed (s.port q))) ∧
        (t.port p).slot = .ready { status := .ok, echo := 0x26, payload := [] } ∧
        t.slb = s.slb ∧ t.chu = s.chu ∧ t.mku = s.mku ∧ t.env = s.env ∧ t.head1 = s.head1 ∧ t.head2 = s.head2 ∧
        t.locks = s.locks ∧ t.setup = s.setup)

/-- R149, R150, R170: a store request that meets a held store waits in its slot with no effect on the store. A port that releases
the store leaves it to a waiting commit, else to the first waiting port after the last one granted, in the order 0, 1, 2, 0, else to
nobody. STORE_GRANT carries out the request of the port that was granted the store at a release: its work, its answer and its
release; in a store that is otherwise at rest that is what the same request does at a free store. That a request waits while no one
holds the store but a port waits, and that a granted port is served by STORE_GRANT, are the model's form of R149 (log entry 8). That
STORE_GRANT has no effect with no port granted is the model's choice (log entry 7). -/
def Obligations.WaitingPortsAreGrantedInRotation : Prop :=
  (∀ (p : PortId) (x : Byte) (n : SeqNo) (s : State), (s.port p).slot = .idle →
    let waits := fun (c : Instr) (q : StoreRequest) (echo : Byte) =>
      (storeFree s = false → exec c s = .next (setSlot p (.working q echo) (afterFrame p s))) ∧
      (storeFree s = true → s.pst.commitWaiting = false →
        let g := setSlot p (.working q echo) (afterFrame p s)
        ∃ t, exec c s = .next t ∧ exec .storeGrant { g with pst := { s.pst with holder := .port p, lastGranted := p } } = .next t)
    waits (.readNext p) .readNext 0x20 ∧ waits (.peekRecord p n) (.peek n) 0x22 ∧
    (1 ≤ x.toNat → x.toNat ≤ 4 → waits (.readBlock p x) (.readBlock x.toNat) 0x21) ∧
    (x.toNat = 0 → waits (.setCursor p x n) (.setCursor .oldest) 0x23) ∧
    (x.toNat = 1 → waits (.setCursor p x n) (.setCursor .newestPlusOne) 0x23) ∧
    (x.toNat = 2 → waits (.setCursor p x n) (.setCursor (.number n)) 0x23) ∧
    (s.locks.setup = some p → s.slb.run = .idle → waits (.clearStore p) .clear 0x26)) ∧
  (∀ (p : PortId) (s : State),
    let turn := fun (q : PortId) => (portNumber q + 2 - portNumber s.pst.lastGranted) % 3
    (nextWaiting s = some p ↔ portWaiting s p = true ∧ ∀ q, portWaiting s q = true → turn p ≤ turn q) ∧
    (nextWaiting s = none ↔ ∀ q, portWaiting s q = false) ∧
    (s.pst.commitWaiting = true → (releaseByPort s).pst.holder = .commitPath ∧ (releaseByPort s).pst.commitWaiting = false) ∧
    (s.pst.commitWaiting = false →
      (nextWaiting s = some p → releaseByPort s = { s with pst := { s.pst with holder := .port p, lastGranted := p } }) ∧
      (nextWaiting s = none → releaseByPort s = { s with pst := { s.pst with holder := .none } }))) ∧
  (∀ (p : PortId) (q : StoreRequest) (echo : Byte) (s : State),
    (s.pst.holder = .port p → (s.port p).slot = .working q echo →
      let r := serveRequest p q { s with pst := { s.pst with lastGranted := p } }
      exec .storeGrant s = .next (releaseByPort (withAnswer p r.2.status echo r.2.payload r.1))) ∧
    ((∀ h, s.pst.holder ≠ .port h) → exec .storeGrant s = .next s))

/-! ## Advice -/

/-- R157, R163: the report of a class: INFRINGE with the stop flag sets a clear stop latch while STOP_ENABLE is on: the advice is
STOP with V_adv 0, and STOP_CHANGE is raised. Any other report changes nothing. R93, R157: every close of the rearmost open slice,
by passage, by force or in a flush, makes the report of the slice's class and of the stop flag of its zone: a stop demand sets a
clear latch in that way, any other close leaves the latch, the last stop change and STOP_CHANGE as they were, and the advice
afterwards is that of the inputs as they then stand. R158: CLEAR STOP from an IDLE slot clears a set latch, names the port, raises
STOP_CHANGE and evaluates the advice afresh; with the latch clear it has no effect. R161 to R164: what an evaluation gives: the
coverage limit from the largest averaged period of the LOCKED heads, the CRAWL and STOP causes, the advised speed and the level.
R160, Table 9-3: the STOP line follows the latch, and ADV1 and ADV0 show the level. -/
def Obligations.StopLatchIsSetAndCleared : Prop :=
  (∀ (cls : SectorState) (stop : Bool) (s : State),
    (cls = .infringe ∧ stop = true ∧ s.setup.stopEnable = true ∧ s.adv.stopLatch = false →
      let t := reportClass cls stop s
      t.adv.stopLatch = true ∧ t.adv.lastStop = .set ∧ t.adv.advice.level = .stop ∧ t.adv.advice.vAdv = 0 ∧
        t.adv.advice.latch = true ∧ (∀ p, outstanding .stopChange (t.port p) = true) ∧
        (s.adv.advice.level ≠ .stop → ∀ p, outstanding .adviceChange (t.port p) = true) ∧ t.slb = s.slb ∧ t.pst = s.pst) ∧
    (¬(cls = .infringe ∧ stop = true ∧ s.setup.stopEnable = true ∧ s.adv.stopLatch = false) → reportClass cls stop s = s)) ∧
  (∀ (kind : CloseKind) (x : OpenSlice) (rest : List OpenSlice) (s : State), s.slb.openSlices = x :: rest →
    let t := closeRearmost kind s
    let demand : Bool := decide ((closedSlice kind s x).cls = .infringe) && x.header.zone.stop && s.setup.stopEnable
    t.adv.advice = adviceOf t ∧
    (demand = true ∧ s.adv.stopLatch = false →
      t.adv.stopLatch = true ∧ t.adv.lastStop = .set ∧ t.adv.advice.level = .stop ∧ t.adv.advice.vAdv = 0 ∧
        t.adv.advice.latch = true ∧ (∀ p, outstanding .stopChange (t.port p) = true) ∧
        (s.adv.advice.level ≠ .stop → ∀ p, outstanding .adviceChange (t.port p) = true)) ∧
    (¬(demand = true ∧ s.adv.stopLatch = false) →
      t.adv.stopLatch = s.adv.stopLatch ∧ t.adv.lastStop = s.adv.lastStop ∧
        ∀ p, outstanding .stopChange (t.port p) = outstanding .stopChange (s.port p))) ∧
  (∀ (p : PortId) (s : State), (s.port p).slot = .idle →
    (s.adv.stopLatch = false → exec (.clearStop p) s = .next (onlyAnswer p .ok 0x14 [] s)) ∧
    (s.adv.stopLatch = true →
      let a := adviceOf { s with adv := { s.adv with stopLatch := false } }
      let u := raiseAll .stopChange (afterFrame p s)
      let v := if a.level = s.adv.advice.level then u else raiseAll .adviceChange u
      exec (.clearStop p) s = .next (withAnswer p .ok 0x14 []
        { v with adv := { stopLatch := false, lastStop := .cleared p, advice := a } }))) ∧
  (∀ s : State,
    let a := adviceOf s
    let running : Bool := decide (s.slb.run = .running)
    let locked := fun (h : HeadId) => decide ((s.head h).state = .locked)
    let period := fun (h : HeadId) => if locked h then (s.head h).averagedPeriod.getD 0 else 0
    let crawl : Bool := a.storeFill || a.quality || a.headMissing
    let stop : Bool := a.latch || a.pending || a.qualityLost || a.noHead
    let base := match a.vCov with
      | none => s.setup.vCfg
      | some v => min s.setup.vCfg v
    a.vCov = (if running && (locked .h1 || locked .h2) then
      some (s.setup.sliceLength * 1000000 / (max (period .h1) (period .h2) * s.setup.minRevs)) else none) ∧
    a.storeFill = (running && decide (s.setup.storeHigh ≤ s.pst.records.length)) ∧
    a.quality = (running && decide (s.chu.quality = .degraded)) ∧
    a.headMissing = (running && ((s.setup.head1.enable && !locked .h1 && locked .h2) ||
      (s.setup.head2.enable && !locked .h2 && locked .h1))) ∧
    a.latch = s.adv.stopLatch ∧ a.pending = (running && decide (8 ≤ s.slb.pendingSlices.length)) ∧
    a.qualityLost = (running && decide (s.chu.quality = .lost)) ∧ a.noHead = (running && !locked .h1 && !locked .h2) ∧
    a.vAdv = (if stop then 0 else if crawl then min base s.setup.vCrawl else base) ∧
    a.level = (if a.vAdv = 0 then .stop else if crawl then .crawl else if a.vAdv < s.setup.vCfg then .limit else .free)) ∧
  (∀ s : State, (stopLine s = true ↔ s.adv.stopLatch = true) ∧
    adviceLines s = (decide (s.adv.advice.level = .limit ∨ s.adv.advice.level = .free),
      decide (s.adv.advice.level = .crawl ∨ s.adv.advice.level = .free)))

/-- R168, R170: a STATUS POLL clocks out the port status byte and changes nothing else. A FETCH clocks the held answer out behind it
and removes the answer once its last byte is out; with none held it clocks out NO_ANSWER. Only the port's slot and its output
change. Holding the bytes clocked out as state, and none beyond an answer's end, is the model's choice (log entry 15). Table 11-2,
R177: the bits of the status byte. R168: a transaction is a SEND by its byte 0x5A, a FETCH by 0xA5, and a status poll by any other
byte or with none complete. R170: READY[p] is asserted exactly while the slot holds an answer. -/
def Obligations.PollAndFetchClockOutTheSlot : Prop :=
  ∀ (p : PortId) (n : Nat) (s : State),
    let out := fun bytes => s.setPort p { s.port p with sdo := statusByte s p :: bytes }
    exec (.statusPoll p) s = .next (out []) ∧
    (∀ a, (s.port p).slot = .ready a →
      ((answerFrame a).length ≤ n → exec (.fetch p n) s = .next (setSlot p .idle (out (answerFrame a)))) ∧
      (n < (answerFrame a).length → exec (.fetch p n) s = .next (out ((answerFrame a).take n)))) ∧
    (ready s p = false →
      exec (.fetch p n) s = .next (out ((answerFrame { status := .noAnswer, echo := 0, payload := [] }).take n))) ∧
    (ready s p = true ↔ ∃ a, (s.port p).slot = .ready a) ∧
    (let b := (statusByte s p).toNat
     b % 4 = (match (s.port p).slot with
       | .idle => 0
       | .working _ _ => 1
       | .ready _ => 2) ∧
     ((statusByte s p)[2] = true ↔ (s.port p).latch &&& (s.port p).eventEnable ≠ 0 ∨ s.signals &&& (s.port p).signalEnable ≠ 0) ∧
     ((statusByte s p)[3] = true ↔ ∃ n, (s.port p).link = .up n) ∧
     b / 16 % 4 = portNumber p ∧ (statusByte s p)[6] = false ∧ (statusByte s p)[7] = true) ∧
    (transactionOf p [] = .statusPoll p ∧
      ∀ (x : Byte) (frame : List Byte), transactionOf p (x :: frame) =
        if x = 0x5A then sendOf p frame else if x = 0xA5 then .fetch p frame.length else .statusPoll p)

/-- R169: a SEND frame that is refused is answered by the first finding that applies, if the slot is IDLE; only a frame with a sound
check value and length is valid for the link. In a slot that is not IDLE a request that is taken has no effect but on the link and
its output, PORT RESET apart. -/
def Obligations.SendFramesAreJudgedBeforeTheirRequest : Prop :=
  (∀ (p : PortId) (frame : List Byte) (s : State),
    let polled := s.setPort p { s.port p with sdo := [statusByte s p] }
    let refused := fun (st : Status) (echo : Byte) (t : State) =>
      if (s.port p).slot = .idle then withAnswer p st echo [] t else t
    (frame.length < 4 → exec (.framingRefusal p frame) s = .next (refused .frameError 0 polled)) ∧
    (4 ≤ frame.length → checkMatches frame = false →
      exec (.framingRefusal p frame) s = .next (refused .frameError (frame.headD 0) polled)) ∧
    (∀ code len rest, frame = code :: len :: rest → 2 ≤ rest.length → checkMatches frame = true →
      (250 < len.toNat ∨ frame.length ≠ len.toNat + 4 →
        exec (.framingRefusal p frame) s = .next (refused .badLength code polled)) ∧
      (len.toNat ≤ 250 → frame.length = len.toNat + 4 →
        (payloadLength code.toNat = none →
          exec (.framingRefusal p frame) s = .next (refused .unknownCommand code (afterFrame p s))) ∧
        (∀ l, payloadLength code.toNat = some l → lengthFits l len.toNat = false →
          exec (.framingRefusal p frame) s = .next (refused .badLength code (afterFrame p s)))))) ∧
  (∀ (c : Instr) (p : PortId) (code : Nat) (payload : List Byte) (s : State), requestParts c = some (p, code, payload) →
    (s.port p).slot ≠ .idle → c ≠ .portReset p → exec c s = .next (afterFrame p s))

/-- R171, R174, R152: the link timer expires when the time since the last valid frame reaches LINK_TIMEOUT[p] × 10 ms, and takes the
UP link DOWN: the port's locks are freed by force, its cursor is demoted to FOLLOW, and PORT_DOWN is raised in the latches of the
other two ports. A DOWN link and a timeout of 0 have no expiry. That the event has no effect there, and none before its time (a
valid frame was taken first), is the model's form (log entry 7). -/
def Obligations.LinkTimeoutTakesTheLinkDown : Prop :=
  ∀ (p : PortId) (s : State),
    ((s.port p).link = .down ∨ s.setup.linkTimeout p = 0 → exec (.linkTimeout p) s = .next s) ∧
    (∀ n, (s.port p).link = .up n → n < s.setup.linkTimeout p * 10000 → exec (.linkTimeout p) s = .next s) ∧
    (∀ n, (s.port p).link = .up n → s.setup.linkTimeout p ≠ 0 → s.setup.linkTimeout p * 10000 ≤ n →
      ∃ t, exec (.linkTimeout p) s = .next t ∧ (t.port p).link = .down ∧ (t.port p).slot = (s.port p).slot ∧
        (∀ k, t.locks.holder k = if s.locks.holder k = some p then none else s.locks.holder k) ∧
        t.pst.cursor p = { s.pst.cursor p with mode := .follow } ∧ (∀ q, q ≠ p → t.pst.cursor q = s.pst.cursor q) ∧
        t.pst.records = s.pst.records ∧ t.pst.nextSeq = s.pst.nextSeq ∧
        (∀ q, q ≠ p → outstanding .portDown (t.port q) = true) ∧
        outstanding .portDown (t.port p) = outstanding .portDown (s.port p) ∧
        ((∃ k, s.locks.holder k = some p) → ∀ q, outstanding .lockForced (t.port q) = true) ∧
        ((∀ k, s.locks.holder k ≠ some p) → ∀ q, outstanding .lockForced (t.port q) = outstanding .lockForced (s.port q)) ∧
        (s.locks.envelope = some p → t.env = { s.env with suspended := s.env.suspended || (zoneListFault s.env).isSome }) ∧
        (s.locks.envelope ≠ some p → t.env = s.env) ∧
        (s.locks.markers = some p → t.mku.suspended = (s.mku.suspended || (markerTableFault s.mku).isSome)) ∧
        (s.locks.markers ≠ some p → t.mku = s.mku) ∧ t.mku.table = s.mku.table ∧
        t.slb = s.slb ∧ t.chu = s.chu ∧ t.scv = s.scv ∧ t.adv = s.adv ∧ t.head1 = s.head1 ∧ t.head2 = s.head2 ∧
        t.signals = s.signals ∧ t.setup = s.setup)

/-- R172, R173: TAKE LOCK and GIVE LOCK from an IDLE slot. A free lock is granted, with the marks of R59 and R127; a held one is
reported with its holder. A give by the holder is refused with the first failing entry of an invalid table (R60, R130), and frees
the lock and clears the table's suspension flag otherwise; for MARKERS the next expected marker is recomputed (R68): the first
enabled entry in direction order that is not passed by more than its window, none at quality LOST or in UNDETERMINED direction. A
lock number above 2 is answered BAD_VALUE. The marker table is valid exactly when the surveyed chainages of its enabled entries rise
strictly with the index, and its first failing entry is the first enabled one that does not lie above the enabled one before it. -/
def Obligations.LocksAreTakenAndGiven : Prop :=
  ∀ (p : PortId) (b : Byte) (s : State), (s.port p).slot = .idle →
    let c := s.chu.chainage / 1000
    let enabled := fun (i : Nat) => (s.mku.table[i]?).any (·.enabled)
    let passed := fun (e : Direction) (i : Nat) => (s.mku.table[i]?).any fun x => match e with
      | .increasing => decide (x.surveyed + x.window < c)
      | .decreasing => decide (c + x.window < x.surveyed)
    let inOrder := fun (e : Direction) => match e with
      | .increasing => List.range 256
      | .decreasing => (List.range 256).reverse
    let next : Option Nat := if s.chu.quality = .lost then none else match s.chu.direction with
      | none => none
      | some e => (inOrder e).find? fun i => enabled i && !passed e i
    let fails := fun (i : Nat) => ∃ e, s.mku.table[i]? = some e ∧ e.enabled = true ∧
      ∃ (j : Nat) (f : MarkerEntry), j < i ∧ s.mku.table[j]? = some f ∧ f.enabled = true ∧ e.surveyed ≤ f.surveyed ∧
        ∀ m, j < m → m < i → enabled m = false
    (2 < b.toNat → exec (.takeLock p b) s = .next (onlyAnswer p .badValue 0x08 [] s) ∧
      exec (.giveLock p b) s = .next (onlyAnswer p .badValue 0x09 [] s)) ∧
    (∀ k, lockOf b = some k →
      (s.locks.holder k = none →
        exec (.takeLock p b) s = .next (withAnswer p .granted 0x08 []
          { afterFrame p s with
            locks := s.locks.setHolder k (some p)
            slb := if k = .envelope then
                { s.slb with openSlices := s.slb.openSlices.map fun x => { x with editMark := true } } else s.slb
            mku := if k = .markers then { s.mku with nextExpected := none } else s.mku })) ∧
      (s.locks.holder k = some p → exec (.takeLock p b) s = .next (onlyAnswer p .granted 0x08 [] s)) ∧
      (∀ q, s.locks.holder k = some q → q ≠ p →
        exec (.takeLock p b) s = .next (onlyAnswer p .held 0x08 [BitVec.ofNat 8 (portNumber q)] s)) ∧
      (s.locks.holder k ≠ some p → exec (.giveLock p b) s = .next (onlyAnswer p .notHolder 0x09 [] s)) ∧
      (s.locks.holder k = some p →
        (∀ i, lockFault k s = some i →
          exec (.giveLock p b) s = .next (onlyAnswer p .orderError 0x09 [BitVec.ofNat 8 i] s)) ∧
        (lockFault k s = none →
          exec (.giveLock p b) s = .next (withAnswer p .ok 0x09 []
            { afterFrame p s with
              locks := s.locks.setHolder k none
              env := if k = .envelope then { s.env with suspended := false } else s.env
              mku := if k = .markers then { s.mku with suspended := false, nextExpected := next } else s.mku })))) ∧
    lockFault .setup s = none ∧ lockFault .envelope s = zoneListFault s.env ∧ lockFault .markers s = markerTableFault s.mku ∧
    (∀ i, markerTableFault s.mku = some i ↔ fails i ∧ ∀ j, j < i → ¬fails j) ∧
    (markerTableFault s.mku = none ↔
      ∀ (i j : Nat) (e f : MarkerEntry), s.mku.table[i]? = some e → s.mku.table[j]? = some f → i < j → e.enabled = true →
        f.enabled = true → e.surveyed < f.surveyed)

/-- R175, R176: the requests of the Signal Word and of the event latch from an IDLE slot. SET SIGNALS and CLEAR SIGNALS answer the
new word; READ EVENTS answers the latch as it stood and empties it; the enables are replaced. -/
def Obligations.SignalsAndEventsAreSetAndRead : Prop :=
  ∀ (p : PortId) (m : SignalMask) (em : EventMask) (s : State), (s.port p).slot = .idle →
    let a := afterFrame p s
    exec (.setSignals p m) s =
      .next (withAnswer p .ok 0x04 (bytesOf 2 (s.signals ||| m).toNat) { a with signals := s.signals ||| m }) ∧
    exec (.clearSignals p m) s =
      .next (withAnswer p .ok 0x05 (bytesOf 2 (s.signals &&& ~~~m).toNat) { a with signals := s.signals &&& ~~~m }) ∧
    exec (.setSignalEnable p m) s = .next (withAnswer p .ok 0x06 [] (a.setPort p { a.port p with signalEnable := m })) ∧
    exec (.readEvents p) s =
      .next (withAnswer p .ok 0x02 (bytesOf 4 (s.port p).latch.toNat) (a.setPort p { a.port p with latch := 0 })) ∧
    exec (.setEventEnable p em) s = .next (withAnswer p .ok 0x03 [] (a.setPort p { a.port p with eventEnable := em }))

/-! ## Tables -/

/-- R178: TABLE POINT and TABLE READ from an IDLE slot: an index up to the last index + 1 is pointed to; a read answers the entry at
the pointer, in the form and length of Table 11-8, and AFTER_ANY advances the pointer; other codes and indices are refused. The
entries of SETUP stand in the order of Table 11-12. -/
def Obligations.TablesArePointedAndRead : Prop :=
  ∀ (p : PortId) (b : Byte) (i : BitVec 16) (s : State), (s.port p).slot = .idle →
    let a := afterFrame p s
    let t := (s.port p).table
    let k := (s.port p).index
    (3 < b.toNat → exec (.tablePoint p b i) s = .next (onlyAnswer p .badValue 0x0A [] s)) ∧
    (∀ x, tableOf b = some x →
      (lastIndex x + 1 < i.toNat → exec (.tablePoint p b i) s = .next (onlyAnswer p .indexRange 0x0A [] s)) ∧
      (i.toNat ≤ lastIndex x + 1 →
        exec (.tablePoint p b i) s =
          .next (withAnswer p .ok 0x0A [] (a.setPort p { a.port p with table := x, index := i.toNat })))) ∧
    (2 < b.toNat → exec (.tableRead p b) s = .next (onlyAnswer p .badValue 0x0B [] s)) ∧
    (b.toNat ≤ 2 → lastIndex t < k → exec (.tableRead p b) s = .next (onlyAnswer p .indexRange 0x0B [] s)) ∧
    (b.toNat ≤ 2 → k ≤ lastIndex t →
      (entryBytes s t k).length = entryLength t k ∧
      exec (.tableRead p b) s = .next (withAnswer p .ok 0x0B (entryBytes s t k)
        (a.setPort p { a.port p with index := if b.toNat = 1 then k + 1 else k }))) ∧
    (let u := s.setup
     let one := fun (h : HeadSetup) => ([flagCode h.enable, rateCode h.maxRate, h.downspeed, h.offset, h.zero, h.phase, h.shadow.toNat,
       h.intensityFloor] : List Int)
     let values : List Int := one u.head1 ++ one u.head2 ++ ([u.rangeMin, u.rangeMax, orientationCode u.orientation, u.sliceLength,
       u.minRevs, u.encK, u.slipTol, u.surveyHold, u.missLimit, u.cantZero, u.cantGain, u.avgCant, u.avgSupply1, u.avgSupply2,
       u.avgLine1, u.avgLine2, u.supply1.low, u.supply1.high, u.supply2.low, u.supply2.high, u.vCfg, u.vCrawl, u.storeHigh,
       flagCode u.stopEnable, u.linkTimeout0, u.linkTimeout1, u.linkTimeout2] : List Int)
     let zone := fun (enabled : Bool) (start stopAt profile margin confirm : Nat) (stop : Bool) =>
       bytesOf 1 (flagCode enabled) ++ bytesOf 4 start ++ bytesOf 4 stopAt ++ bytesOf 1 profile ++ bytesOf 2 margin ++
         bytesOf 1 confirm ++ bytesOf 1 (flagCode stop)
     let d := s.env.default
     (∀ j v, values[j]? = some v → entryBytes s .setup j = bytesOf (if j = 6 ∨ j = 14 then 8 else 4) v) ∧
     (∀ (j : Nat) (e : Nat), s.env.radii[j]? = some e → entryBytes s .profiles j = bytesOf 2 e) ∧
     (∀ (j : Nat) (z : ZoneEntry), s.env.zones[j]? = some z →
       entryBytes s .zones j = zone z.enabled z.start z.stopAt z.profile z.margin z.confirm z.stop) ∧
     entryBytes s .zones 32 = zone true 0 1000000000 d.profile d.margin d.confirm d.stop ∧
     (∀ (j : Nat) (e : MarkerEntry), s.mku.table[j]? = some e →
       entryBytes s .markers j =
         bytesOf 1 (flagCode e.enabled) ++ bytesOf 4 e.surveyed ++ bytesOf 2 e.window ++ bytesOf 1 (kindCode e.kind)))

/-- R178: TABLE WRITE from an IDLE slot is refused by the first finding that applies, with no effect; every row of the table that is
a TABLE WRITE is judged alike (log entry 11). A write that passes changes no lock, unless it is one of LINK_TIMEOUT that takes
another port's link DOWN at once and frees that port's locks (R171, R174). -/
def Obligations.TableWritesAreJudgedInOrder : Prop :=
  ∀ (p : PortId) (mode : Byte) (entry : List Byte) (c : Instr) (s : State), c ∈ tableWrites p mode entry →
    (s.port p).slot = .idle →
    let t' := (s.port p).table
    let k := (s.port p).index
    let e := setupEntryOf k
    let outside : Bool := match entryRange e with
      | .oneOf codes => decide (intOf entry ∉ codes)
      | _ => false
    if entry.length < 2 ∨ 14 < entry.length then exec c s = .next (onlyAnswer p .badLength 0x0C [] s)
    else if 2 < mode.toNat then exec c s = .next (onlyAnswer p .badValue 0x0C [] s)
    else if lastIndex t' < k then exec c s = .next (onlyAnswer p .indexRange 0x0C [] s)
    else if entry.length ≠ entryLength t' k then exec c s = .next (onlyAnswer p .badLength 0x0C [] s)
    else if s.locks.holder (tableLock t') ≠ some p then exec c s = .next (onlyAnswer p .lockRequired 0x0C [] s)
    else if t' = .setup ∧ runFixed e = true ∧ s.slb.run ≠ .idle then exec c s = .next (onlyAnswer p .runActive 0x0C [] s)
    else if t' = .setup ∧ outside = true then
      exec c s = .next (onlyAnswer p .badValue 0x0C [] s)
    else ∃ t, exec c s = .next t ∧
        (∀ j, t.locks.holder j = s.locks.holder j ∨
          ∃ q, t' = .setup ∧ e = .linkTimeout q ∧ q ≠ p ∧ linkUp (s.port q) = true ∧ s.locks.holder j = some q ∧
            t.locks.holder j = none) ∧
        t.timebase = s.timebase ∧ t.chu.chainage = s.chu.chainage ∧
      (t.port p).table = (s.port p).table ∧
      (((t.port p).slot = .ready { status := .badValue, echo := 0x0C, payload := [] } ∧ (t.port p).index = k) ∨
        (((t.port p).slot = .ready { status := .ok, echo := 0x0C, payload := [] } ∨
            (t.port p).slot = .ready { status := .clamped, echo := 0x0C, payload := [] }) ∧
          (t.port p).index = if mode.toNat = 0 then k else k + 1))

/-- R178, R40, R156, R7, R171, R122, R124, R58: what a TABLE WRITE that passes every finding stores. A numeric setup entry takes the
value clamped to its range, with CLAMPED when that changed it, and an entry that takes a value of its range or set then holds it
while every other entry stands; ENC_K also clears the remainder, an input of the Advice Unit evaluates the advice, and LINK_TIMEOUT
of a port takes that port's link DOWN if it is UP and its time has run out. HEAD_ENABLE[h] powers a head that is OFF or takes it to
OFF, and the exit of a LOCKED head has its consequences (R94); that the entry is written before that exit is the model's choice (log
entry 27). A radius is stored where the pointer stands, and the write is noted for a binning of the same moment (the model's form,
log entry 26). A zone, DEFAULT and a marker take their numeric fields clamped, with CLAMPED when that changed one, and refuse an
enumerated field outside its set with BAD_VALUE and no effect. -/
def Obligations.TableWritesStoreTheirEntries : Prop :=
  (∀ (u : Setup) (e : SetupEntry) (v : Int), valueSound (entryRange e) v → (entryRange e = .mask → 0 ≤ v ∧ v < 2 ^ 64) →
    setupValue (setSetup u e v) e = v ∧ ∀ f, f ≠ e → setupValue (setSetup u e v) f = setupValue u f) ∧
  ∀ (p : PortId) (mode : Byte) (entry : List Byte) (s : State), (s.port p).slot = .idle → mode.toNat ≤ 2 →
    (s.port p).index ≤ lastIndex (s.port p).table → entry.length = entryLength (s.port p).table (s.port p).index →
    s.locks.holder (tableLock (s.port p).table) = some p →
    let k := (s.port p).index
    let e := setupEntryOf k
    ((s.port p).table = .setup → runFixed e = true → s.slb.run = .idle) →
    let b := afterFrame p s
    let a := b.setPort p { b.port p with index := if mode.toNat = 0 then k else k + 1 }
    let field := fun (i n : Nat) => natOf ((entry.drop i).take n)
    ((s.port p).table = .setup →
      (∀ lo hi, entryRange e = .within lo hi →
        let v := max lo (min hi (intOf entry))
        let st : Status := if v = intOf entry then .ok else .clamped
        let w := { a with setup := setSetup s.setup e v }
        ((∀ q, e ≠ .linkTimeout q) → e ≠ .encK → e ≠ .vCfg → e ≠ .vCrawl → e ≠ .storeHigh → e ≠ .minRevs →
          exec (.tableWrite p mode entry) s = .next (withAnswer p st 0x0C [] w)) ∧
        (e = .encK → exec (.tableWriteEncK p mode entry) s =
          .next (withAnswer p st 0x0C [] { w with chu := { s.chu with remainder := 0 } })) ∧
        (e = .vCfg ∨ e = .vCrawl ∨ e = .storeHigh ∨ e = .minRevs →
          let u := if (adviceOf w).level = s.adv.advice.level then w else raiseAll .adviceChange w
          exec (.tableWriteAdviceInput p mode entry) s =
            .next (withAnswer p st 0x0C [] { u with adv := { s.adv with advice := adviceOf w } })) ∧
        (e = .linkTimeout p → exec (.tableWriteLinkTimeout p mode entry) s = .next (withAnswer p st 0x0C [] w)) ∧
        (∀ q, q ≠ p → e = .linkTimeout q →
          ∃ u, exec (.linkTimeout q) w = .next u ∧
            exec (.tableWriteLinkTimeout p mode entry) s = .next (withAnswer p st 0x0C [] u) ∧
            (∀ n, (s.port q).link = .up n → v ≠ 0 → v.toNat * 10000 ≤ n → (u.port q).link = .down))) ∧
      (∀ codes, entryRange e = .oneOf codes → (∀ h, e ≠ .headEnable h) → intOf entry ∈ codes →
        exec (.tableWrite p mode entry) s = .next (withAnswer p .ok 0x0C [] { a with setup := setSetup s.setup e (intOf entry) })) ∧
      (entryRange e = .mask →
        exec (.tableWrite p mode entry) s = .next (withAnswer p .ok 0x0C [] { a with setup := setSetup s.setup e (natOf entry) })) ∧
      (∀ h, e = .headEnable h → intOf entry = 0 ∨ intOf entry = 1 →
        let on : Bool := decide (intOf entry = 1)
        let off := { inState .off (s.head h) with openRev := none }
        let w := evaluateAdvice { a with setup := s.setup.setHead h { s.setup.head h with enable := on } }
        (on = false → (s.head h).state = .locked →
          exec (.tableWriteHeadEnable p mode entry) s =
            .next (withAnswer p .ok 0x0C [] (afterExit h (raiseAll .headState (w.setHead h off))))) ∧
        (¬(on = false ∧ (s.head h).state = .locked) →
          ∃ t, exec (.tableWriteHeadEnable p mode entry) s = .next t ∧
            t.setup = s.setup.setHead h { s.setup.head h with enable := on } ∧
            (t.port p).slot = .ready { status := .ok, echo := 0x0C, payload := [] } ∧
            t.head (otherHead h) = s.head (otherHead h) ∧ t.chu = s.chu ∧ t.slb = s.slb ∧ t.scv = s.scv ∧
            (on = true → (s.head h).state ≠ .off → t.head h = s.head h) ∧
            (on = true → (s.head h).state = .off → (t.head h).state = .powering ∧
              (t.head h).rate = (s.setup.head h).maxRate ∧ (t.head h).settleTimer = some 200000) ∧
            (on = false → t.head h = off)))) ∧
    ((s.port p).table = .profiles → exec (.tableWriteProfiles p mode entry) s =
      .next (withAnswer p .ok 0x0C [] { a with
        env := { s.env with radii := s.env.radii.setIfInBounds k (natOf entry) },
        slb := { s.slb with radiusWrites := ⟨k, (s.env.radii[k]?).getD 0⟩ :: s.slb.radiusWrites } })) ∧
    ((s.port p).table = .zones →
      let start := min 1000000000 (field 1 4)
      let stopAt := min 1000000000 (field 5 4)
      let margin := min 4095 (field 10 2)
      let confirm := max 1 (min 15 (field 12 1))
      let same : Bool := decide (margin = field 10 2 ∧ confirm = field 12 1)
      let moved : Bool := decide (start ≠ field 1 4 ∨ stopAt ≠ field 5 4)
      let zone : ZoneEntry := ⟨decide (field 0 1 = 1), start, stopAt, field 9 1, margin, confirm, decide (field 13 1 = 1)⟩
      (7 < field 9 1 ∨ 1 < field 13 1 ∨ (k < 32 ∧ 1 < field 0 1) →
        exec (.tableWriteZones p mode entry) s = .next (onlyAnswer p .badValue 0x0C [] s)) ∧
      (field 9 1 ≤ 7 → field 13 1 ≤ 1 →
        (k < 32 → field 0 1 ≤ 1 →
          exec (.tableWriteZones p mode entry) s = .next (withAnswer p (if same && !moved then .ok else .clamped) 0x0C []
            { a with env := { s.env with zones := s.env.zones.setIfInBounds k zone } })) ∧
        (k = 32 →
          exec (.tableWriteZones p mode entry) s = .next (withAnswer p (if same then .ok else .clamped) 0x0C []
            { a with env := { s.env with default := ⟨field 9 1, margin, confirm, decide (field 13 1 = 1)⟩ } })))) ∧
    ((s.port p).table = .markers →
      let surveyed := min 999999999 (field 1 4)
      let window := max 10 (min 2000 (field 5 2))
      let marker : MarkerEntry := ⟨decide (field 0 1 = 1), surveyed, window, if field 7 1 = 1 then .ring else .check⟩
      (1 < field 0 1 ∨ 1 < field 7 1 →
        exec (.tableWriteMarkers p mode entry) s = .next (onlyAnswer p .badValue 0x0C [] s)) ∧
      (field 0 1 ≤ 1 → field 7 1 ≤ 1 →
        exec (.tableWriteMarkers p mode entry) s =
          .next (withAnswer p (if surveyed = field 1 4 ∧ window = field 5 2 then .ok else .clamped) 0x0C []
            { a with mku := { s.mku with table := s.mku.table.setIfInBounds k marker } })))

/-- R179, R22, R35, R71: the four reports from an IDLE slot change nothing but the answer (and, for an absent previous revolution,
the model's own count of free values, log entry 6). Every byte of Tables 11-7, 11-9, 11-10 and 11-11 stands in its place, but for
the number of an absent previous revolution, which is free (log entry 6). -/
def Obligations.ReportsAnswerWithoutEffect : Prop :=
  ∀ (p : PortId) (b n : Byte) (s : State), (s.port p).slot = .idle →
    let a := afterFrame p s
    let places := fun (whole : List Byte) (start : Nat) (parts : List (List Byte)) =>
      (whole.drop start).take parts.flatten.length = parts.flatten
    let yes := fun (x : Bool) => bytesOf 1 (if x then 1 else 0)
    let bit := fun (k : Nat) (x : Bool) => if x then 2 ^ k else 0
    let table := fun (holder : Option PortId) (suspended : Bool) =>
      bytesOf 1 (if holder ≠ none then 1 else if suspended then 2 else 0)
    let c := s.adv.advice
    let holder := fun (k : Lock) => ((s.locks.holder k).map portNumber).getD 3
    let up := fun (q : PortId) => decide (q = p) || linkUp (s.port q)
    let marker := fun (x : Option Nat) => bytesOf 2 (x.getD 65535 : Nat)
    let channel := fun (avg : Nat) (x : SenseChannel) =>
      [bytesOf 2 ((x.window.getLast?.map BitVec.toNat).getD 0 : Nat), bytesOf 2 (x.filtered.getD 0 : Nat), bytesOf 1 avg,
        bytesOf 1 x.window.length]
    exec (.readStatus p) s = .next (onlyAnswer p .ok 0x01 (statusReport p a) s) ∧ (statusReport p a).length = 70 ∧
    places (statusReport p a) 0 [bytesOf 1 (runStateCode s.slb.run), bytesOf 1 (directionCode s.slb.direction),
      bytesOf 2 s.slb.runNumber.toNat, bytesOf 2 s.slb.segment.toNat, bytesOf 1 s.slb.openSlices.length,
      bytesOf 1 s.slb.pendingSlices.length, bytesOf 2 s.slb.carriedOverruns] ∧
    places (statusReport p a) 10 [bytesOf 1 (headStateCode s.head1.state), bytesOf 1 (headStateCode s.head2.state),
      bytesOf 1 (rateCode s.head1.rate), bytesOf 1 (rateCode s.head2.rate)] ∧
    places (statusReport p a) 14 [bytesOf 4 (s.chu.chainage / 1000 : Nat),
      bytesOf 2 (min 10000 (s.chu.speedHistory.toList.sum / 40) : Nat), bytesOf 1 (directionCode s.chu.direction),
      bytesOf 1 (qualityCode s.chu.quality),
      bytesOf 1 (bit 0 (decide (s.chu.left.health = .failed)) + bit 1 (decide (s.chu.right.health = .failed)) +
        bit 2 s.chu.slip : Nat), [0], bytesOf 4 (s.chu.travel / 1000 : Nat)] ∧
    places (statusReport p a) 28 [table s.locks.envelope s.env.suspended, yes s.env.suspended,
      table s.locks.markers s.mku.suspended, yes s.mku.suspended] ∧
    places (statusReport p a) 32 [bytesOf 2 s.pst.records.length, yes s.pst.commitBlocked, [0],
      bytesOf 4 (s.pst.nextSeq - BitVec.ofNat 32 s.pst.records.length).toNat, bytesOf 4 (s.pst.nextSeq - 1).toNat,
      bytesOf 4 s.pst.nextSeq.toNat] ∧
    places (statusReport p a) 48 [bytesOf 1 (levelCode c.level),
      bytesOf 1 (bit 0 c.storeFill + bit 1 c.quality + bit 2 c.headMissing + bit 4 c.latch + bit 5 c.pending +
        bit 6 c.qualityLost + bit 7 c.noHead : Nat), bytesOf 2 c.vAdv, bytesOf 4 (c.vCov.getD 0 : Nat), yes s.adv.stopLatch,
      (match s.adv.lastStop with
        | .none => [0, 0]
        | .set => [1, 0]
        | .cleared q => 2 :: bytesOf 1 (portNumber q))] ∧
    places (statusReport p a) 59 [bytesOf 1 (holder .envelope + 4 * holder .markers + 16 * holder .setup : Nat),
      bytesOf 1 (bit 0 (up .p0) + bit 1 (up .p1) + bit 2 (up .p2) : Nat), bytesOf 1 (portNumber p), bytesOf 2 s.signals.toNat,
      bytesOf 6 s.timebase.toNat] ∧
    (b.toNat ≠ 1 → b.toNat ≠ 2 → exec (.readHeadStatus p b) s = .next (onlyAnswer p .badValue 0x32 [] s)) ∧
    (∀ h, b.toNat = headNumber h →
      let r := s.head h
      exec (.readHeadStatus p b) s = .next (withAnswer p .ok 0x32 (headReport h a)
        { a with freeCount := if r.previous = none then s.freeCount + 1 else s.freeCount }) ∧
      (headReport h a).length = 20 ∧
      places (headReport h a) 0 [bytesOf 1 (headStateCode r.state), bytesOf 1 (rateCode r.rate),
        bytesOf 1 (rateCode (s.setup.head h).maxRate), bytesOf 1 r.trainFailures, bytesOf 1 (faultCauseCode r.faultCause),
        bytesOf 4 (r.averagedPeriod.getD 0 : Nat), bytesOf 1 r.periods.length, bytesOf 1 r.rejectionRun] ∧
      (∀ q, r.previous = some q → places (headReport h a) 11 [bytesOf 2 q.number.toNat]) ∧
      places (headReport h a) 13 [yes r.previous.isSome, yes (decide (r.state ≠ .off ∧ r.state ≠ .faulted)),
        bytesOf 1 (lineClassCode (s.scv.line h).cls), bytesOf 1 (supplyStateCode (s.scv.supply h).state),
        bytesOf 1 (selectionCode r.selection), bytesOf 1 r.counter, [0]]) ∧
    exec (.readSense p) s = .next (onlyAnswer p .ok 0x38 (senseReport a) s) ∧ (senseReport a).length = 50 ∧
    places (senseReport a) 0 (channel s.setup.avgCant s.scv.cant.channel ++
      [bytesOf 2 s.scv.cant.value, bytesOf 1 (cantStatusCode s.scv.cant.status), yes s.scv.cant.clamped]) ∧
    (∀ h, places (senseReport a) (if h = .h1 then 10 else 20) (channel (s.setup.avgSupply h) (s.scv.supply h).channel ++
      [bytesOf 1 (supplyStateCode (s.scv.supply h).state), bytesOf 1 (s.scv.supply h).count, [0, 0]])) ∧
    (∀ h, places (senseReport a) (if h = .h1 then 30 else 40) (channel (s.setup.avgLine h) (s.scv.line h).channel ++
      [bytesOf 1 (lineClassCode (s.scv.line h).cls), bytesOf 1 (((s.scv.line h).candidate.map lineClassCode).getD 255 : Nat),
        bytesOf 1 (s.scv.line h).count, [0]])) ∧
    (15 < b.toNat ∨ n.toNat = 0 ∨ 16 < n.toNat →
      exec (.readCaptures p b n) s = .next (onlyAnswer p .badValue 0x39 [] s)) ∧
    (b.toNat ≤ 15 → 1 ≤ n.toNat → n.toNat ≤ 16 →
      let report := captureReport b.toNat n.toNat a
      let count := min n.toNat (s.mku.log.length - b.toNat)
      exec (.readCaptures p b n) s = .next (onlyAnswer p .ok 0x39 report s) ∧ report.length = 13 + 16 * count ∧
      places report 0 [bytesOf 1 s.mku.log.length, bytesOf 1 count, bytesOf 4 s.mku.captureTotal.toNat,
        bytesOf 2 s.mku.suppressed, table s.locks.markers s.mku.suspended, yes s.mku.suspended, bytesOf 1 s.mku.missCount,
        marker s.mku.nextExpected] ∧
      ∀ j x, j < count → s.mku.log[b.toNat + j]? = some x →
        places report (13 + 16 * j) [bytesOf 6 x.time.toNat, bytesOf 4 x.chainageBefore, marker x.marker, bytesOf 2 x.correction,
          bytesOf 1 (captureResultCode x.result), [0]])

/-! ## Resets -/

/-- R183, R151, R152, R174: PORT RESET, taken in every slot state: the port's latch, enables, pointer and slot are emptied, its
cursor stands at the next sequence number in FOLLOW with nothing missed, its locks are freed by force with LOCK_FORCED raised once,
and the answer is OK. A waiting request of the port is withdrawn without effect; one that was granted the store completes its work
on it first, as STORE_GRANT does, and its answer is discarded. That a granted port holds the store between the release and
STORE_GRANT, so that such a port can be met at all, is the model's form (log entry 8). The other ports' slots and cursors, the run,
the position and the setup stand. -/
def Obligations.PortResetEmptiesThePort : Prop :=
  (∀ (p : PortId) (s : State), s.pst.holder ≠ .port p ∨ portWaiting s p = false →
    let forced : Bool := decide (s.locks.envelope = some p ∨ s.locks.markers = some p ∨ s.locks.setup = some p)
    ∃ t, exec (.portReset p) s = .next t ∧
      t.port p = { (s.port p) with
        link := .up 0, slot := .ready { status := .ok, echo := 0x0E, payload := [] },
        latch := if forced then 1 <<< 18 else 0, eventEnable := 0, signalEnable := 0, table := .setup,
        index := 0, sdo := [statusByte s p] } ∧
      (∀ q, q ≠ p → t.port q = { s.port q with
        latch := if forced then (s.port q).latch ||| 1 <<< 18 else (s.port q).latch }) ∧
      (∀ k, t.locks.holder k = if s.locks.holder k = some p then none else s.locks.holder k) ∧
      t.pst.cursor p = { position := s.pst.nextSeq, mode := .follow, missed := 0 } ∧
      (∀ q, q ≠ p → t.pst.cursor q = s.pst.cursor q) ∧ t.pst.records = s.pst.records ∧ t.pst.nextSeq = s.pst.nextSeq ∧
      t.env.radii = s.env.radii ∧ t.env.zones = s.env.zones ∧ t.mku.table = s.mku.table ∧
      t.slb = s.slb ∧ t.chu = s.chu ∧ t.scv = s.scv ∧ t.adv = s.adv ∧ t.head1 = s.head1 ∧ t.head2 = s.head2 ∧
      t.signals = s.signals ∧ t.setup = s.setup ∧ t.timebase = s.timebase) ∧
  (∀ (p : PortId) (s : State), s.pst.holder = .port p → portWaiting s p = true →
    ∃ t, exec .storeGrant s = .next t ∧ t.pst.holder ≠ .port p ∧ ∃ u, exec (.portReset p) t = .next u ∧
      exec (.portReset p) s = .next (u.setPort p { u.port p with sdo := [statusByte s p] }))

/-- R181, R24, R36, R56, R73, R134: SOFT RESET from an IDLE slot needs the SETUP lock. The setup, the timebase and the tables are
kept; every other item returns to its reset value, the phase pairs are read afresh, UP links stay UP, an enabled head enters
POWERING, and a table that is invalid under a held lock is suspended. The conversions begin anew with CANT (R25); that the first one
completes 400 µs after the reset is the model's choice (log entry 2). -/
def Obligations.SoftResetKeepsTheSetup : Prop :=
  ∀ (p : PortId) (s : State), (s.port p).slot = .idle →
    (s.locks.setup ≠ some p → exec (.softReset p) s = .next (onlyAnswer p .lockRequired 0x0F [] s)) ∧
    (s.locks.setup = some p →
      ∃ t, exec (.softReset p) s = .next t ∧ t.setup = s.setup ∧ t.timebase = s.timebase ∧ t.windowTime = 0 ∧
        t.conversionTime = 0 ∧ t.nextChannel = .cant ∧
        (∀ h, t.head h = if (s.setup.head h).enable then
            { HeadReceiver.reset with rate := (s.setup.head h).maxRate, state := .powering, settleTimer := some 200000 }
          else { HeadReceiver.reset with rate := (s.setup.head h).maxRate }) ∧
        t.scv = .reset ∧ t.chu = .reset s.chu.left.phase s.chu.right.phase ∧ t.slb = .reset ∧ t.pst = .reset ∧
        t.adv = .reset s.setup.vCfg ∧ t.locks = .reset ∧ t.signals = 0 ∧
        t.mku = { MarkerUnit.reset with
          table := s.mku.table,
          suspended := s.mku.suspended || (s.locks.markers.isSome && (markerTableFault s.mku).isSome) } ∧
        t.env = { s.env with
          suspended := s.env.suspended || (s.locks.envelope.isSome && (zoneListFault s.env).isSome) } ∧
        (∀ q, t.port q = { s.port q with
          link := if q = p ∨ linkUp (s.port q) = true then .up 0 else .down,
          slot := if q = p then .ready { status := .ok, echo := 0x0F, payload := [] } else .idle,
          latch := if s.setup.head1.enable = true ∨ s.setup.head2.enable = true then 1 else 0, eventEnable := 0,
          signalEnable := 0, table := .setup, index := 0,
          sdo := if q = p then [statusByte s p] else (s.port q).sdo }))

/-- R180 with R24, R36, R56, R73, R100, R134, R155, R167: what the device reset leaves, with defaults of Table 11-13, and that state
satisfies every invariant below. The queue and the model's own count stand, and State.reset is the state after a reset with all four
phases low (log entries 2 and 23). The next conversion is of CANT; its time is the model's choice (log entry 2). -/
def Obligations.DeviceResetLeavesASoundState : Prop :=
  ∀ (left right : Phase) (s : State),
    exec (.deviceReset left right) s =
      .next { State.resetWith left right with pending := s.pending, freeCount := s.freeCount } ∧
    (let t := State.resetWith left right
     (t.timebase = 0 ∧ t.windowTime = 0 ∧ t.conversionTime = 0 ∧ t.nextChannel = .cant ∧ t.signals = 0 ∧
       (∀ h, (t.head h).state = .off ∧ (t.head h).rate = .full ∧ (t.head h).openRev = none ∧ (t.head h).previous = none ∧
         (t.head h).periods = [] ∧ (t.head h).averagedPeriod = none ∧ (t.head h).selection = .frameCheck ∧
         (t.head h).counter = 0 ∧ (t.scv.supply h).state = .inWindow ∧ (t.scv.line h).cls = .normal) ∧
       t.scv.cant.status = .notYet ∧ t.scv.cant.value = 0 ∧ t.chu.chainage = 0 ∧ t.chu.quality = .lost ∧
       t.chu.direction = none ∧ t.chu.left.phase = left ∧ t.chu.right.phase = right ∧ t.chu.left.health = .healthy ∧
       t.chu.right.health = .healthy ∧ t.mku.log = [] ∧ t.mku.nextExpected = none ∧ t.mku.captureTotal = 0 ∧
       t.slb.run = .idle ∧ t.slb.runNumber = 0 ∧ t.slb.openSlices = [] ∧ t.slb.pendingSlices = [] ∧ t.pst.records = [] ∧
       t.pst.nextSeq = 0 ∧ t.pst.holder = .none ∧ t.pst.lastGranted = .p2 ∧ t.adv.stopLatch = false ∧
       t.adv.advice.level = .free ∧ t.adv.advice.vAdv = 2000 ∧
       (∀ p, (t.port p).link = .down ∧ (t.port p).slot = .idle ∧ (t.port p).latch = 0 ∧ (t.port p).eventEnable = 0 ∧
         (t.port p).signalEnable = 0 ∧ (t.port p).table = .setup ∧ (t.port p).index = 0 ∧
         t.pst.cursor p = { position := 0, mode := .follow, missed := 0 } ∧ t.setup.linkTimeout p = 50) ∧
       (∀ k, t.locks.holder k = none) ∧ t.setup.sliceLength = 100 ∧ t.setup.encK = 10000 ∧ t.setup.rangeMin = 400 ∧
       t.setup.rangeMax = 60000 ∧ t.setup.vCfg = 2000 ∧ t.setup.vCrawl = 300 ∧ t.setup.storeHigh = 1536 ∧
       t.setup.stopEnable = true) ∧
     locksUp t ∧ storeSound t.pst ∧ queueSound t.slb ∧ commitSound t ∧ positionSound t ∧ headsSound t ∧ setupSound t.setup ∧
       adviceSound t) ∧
    State.reset = State.resetWith ⟨false, false⟩ ⟨false, false⟩

/-! ## What every step keeps -/

/-- R172, R171: no step lets a port whose link is DOWN hold a lock. R41, R57, R58 and Table 11-13 with R178: every step keeps the
chainage, the surveyed chainages and the setup entries in their ranges. -/
def Obligations.EveryStepKeepsLocksAndRanges : Prop :=
  ∀ s t : State, step s = .next t →
    (locksUp s → locksUp t) ∧ (positionSound s → positionSound t) ∧ (setupSound s.setup → setupSound t.setup)

/-- R6, R10, R16 to R18, R23 and Table 1-9: every step keeps each head's timers with its state, its open revolution in ACQUIRING or
LOCKED, its counts in range, and an averaged period in LOCKED. -/
def Obligations.EveryStepKeepsTheHeadsSound : Prop :=
  ∀ s t : State, headsSound s → step s = .next t → headsSound t

/-- R135, R136, R138: every step keeps at most 2048 records of 480 bytes, and every cursor between the oldest record and newest + 1.
-/
def Obligations.EveryStepKeepsTheStoreSound : Prop :=
  ∀ s t : State, storeSound s.pst → step s = .next t → storeSound t.pst

/-- R83, R85, R86, R92: every step keeps at most 48 open and 64 queued slices, an empty queue in IDLE, no open slice in DRAINING,
and the open slices in the order of the segment direction, ahead of the last closed one. -/
def Obligations.EveryStepKeepsTheQueueInOrder : Prop :=
  ∀ s t : State, queueSound s.slb → step s = .next t → queueSound t.slb

/-- R96, R137, R139, R149: every step keeps the commit path at work for a pending slice, and only for one. -/
def Obligations.EveryStepKeepsTheCommitPathAtWork : Prop :=
  ∀ s t : State, commitSound s → step s = .next t → commitSound t

/-- R156, R165: every step leaves the advice as the inputs then stand. -/
def Obligations.EveryStepKeepsTheAdviceOfItsInputs : Prop :=
  ∀ s t : State, setupSound s.setup → adviceSound s → step s = .next t → adviceSound t

/-! ## Frames -/

/-- R169, R1, Tables 11-4 and 11-5: the frame of every well-formed request is read as that request on its port (a TABLE WRITE as the
plain row, log entry 11), and the frame of every head link command as that command. Whatever the bytes, what is read from them is a
command that can arise. -/
def Obligations.FramesAreReadAsTheirCommands : Prop :=
  (∀ (i : Instr) (p : PortId) (frame : List Byte), i.wellFormed = true → requestFrame i = some (p, frame) →
    sendOf p frame = readsAs i) ∧
  (∀ (i : Instr) (h : HeadId) (frame : List Byte), headFrame i = some (h, frame) → headCommandOf h frame = i) ∧
  (∀ (p : PortId) (h : HeadId) (frame : List Byte),
    (sendOf p frame).wellFormed = true ∧ (headCommandOf h frame).wellFormed = true)
end

