-- ==== Sys2Proof/Laws/State.lean ====
section
/-! SUPPORT. What each update of a part of the state leaves, field by field, and what it makes of the part it updates. -/

namespace Sys2Proof.Machine

/-! ## setHead -/

@[simp] theorem setHead_pending (s : State) (h : HeadId) (r : HeadReceiver) :
    (s.setHead h r).pending = s.pending := by cases h <;> rfl
@[simp] theorem setHead_timebase (s : State) (h : HeadId) (r : HeadReceiver) :
    (s.setHead h r).timebase = s.timebase := by cases h <;> rfl
@[simp] theorem setHead_windowTime (s : State) (h : HeadId) (r : HeadReceiver) :
    (s.setHead h r).windowTime = s.windowTime := by cases h <;> rfl
@[simp] theorem setHead_conversionTime (s : State) (h : HeadId) (r : HeadReceiver) :
    (s.setHead h r).conversionTime = s.conversionTime := by cases h <;> rfl
@[simp] theorem setHead_nextChannel (s : State) (h : HeadId) (r : HeadReceiver) :
    (s.setHead h r).nextChannel = s.nextChannel := by cases h <;> rfl
@[simp] theorem setHead_scv (s : State) (h : HeadId) (r : HeadReceiver) :
    (s.setHead h r).scv = s.scv := by cases h <;> rfl
@[simp] theorem setHead_chu (s : State) (h : HeadId) (r : HeadReceiver) :
    (s.setHead h r).chu = s.chu := by cases h <;> rfl
@[simp] theorem setHead_mku (s : State) (h : HeadId) (r : HeadReceiver) :
    (s.setHead h r).mku = s.mku := by cases h <;> rfl
@[simp] theorem setHead_env (s : State) (h : HeadId) (r : HeadReceiver) :
    (s.setHead h r).env = s.env := by cases h <;> rfl
@[simp] theorem setHead_slb (s : State) (h : HeadId) (r : HeadReceiver) :
    (s.setHead h r).slb = s.slb := by cases h <;> rfl
@[simp] theorem setHead_pst (s : State) (h : HeadId) (r : HeadReceiver) :
    (s.setHead h r).pst = s.pst := by cases h <;> rfl
@[simp] theorem setHead_adv (s : State) (h : HeadId) (r : HeadReceiver) :
    (s.setHead h r).adv = s.adv := by cases h <;> rfl
@[simp] theorem setHead_port0 (s : State) (h : HeadId) (r : HeadReceiver) :
    (s.setHead h r).port0 = s.port0 := by cases h <;> rfl
@[simp] theorem setHead_port1 (s : State) (h : HeadId) (r : HeadReceiver) :
    (s.setHead h r).port1 = s.port1 := by cases h <;> rfl
@[simp] theorem setHead_port2 (s : State) (h : HeadId) (r : HeadReceiver) :
    (s.setHead h r).port2 = s.port2 := by cases h <;> rfl
@[simp] theorem setHead_locks (s : State) (h : HeadId) (r : HeadReceiver) :
    (s.setHead h r).locks = s.locks := by cases h <;> rfl
@[simp] theorem setHead_signals (s : State) (h : HeadId) (r : HeadReceiver) :
    (s.setHead h r).signals = s.signals := by cases h <;> rfl
@[simp] theorem setHead_setup (s : State) (h : HeadId) (r : HeadReceiver) :
    (s.setHead h r).setup = s.setup := by cases h <;> rfl
@[simp] theorem setHead_freeCount (s : State) (h : HeadId) (r : HeadReceiver) :
    (s.setHead h r).freeCount = s.freeCount := by cases h <;> rfl
@[simp] theorem setHead_head_self (s : State) (h : HeadId) (r : HeadReceiver) :
    (s.setHead h r).head h = r := by cases h <;> rfl
@[simp] theorem setHead_head_other (s : State) (h : HeadId) (r : HeadReceiver) :
    (s.setHead h r).head (otherHead h) = s.head (otherHead h) := by cases h <;> rfl
theorem setHead_head (s : State) (h g : HeadId) (r : HeadReceiver) :
    (s.setHead h r).head g = if g = h then r else s.head g := by cases h <;> cases g <;> rfl
@[simp] theorem setHead_setHead (s : State) (h : HeadId) (r q : HeadReceiver) :
    (s.setHead h r).setHead h q = s.setHead h q := by cases h <;> rfl
@[simp] theorem setHead_port (s : State) (h : HeadId) (r : HeadReceiver) (p : PortId) :
    (s.setHead h r).port p = s.port p := by cases h <;> cases p <;> rfl

/-! ## setPort -/

@[simp] theorem setPort_pending (s : State) (p : PortId) (m : MasterPort) :
    (s.setPort p m).pending = s.pending := by cases p <;> rfl
@[simp] theorem setPort_timebase (s : State) (p : PortId) (m : MasterPort) :
    (s.setPort p m).timebase = s.timebase := by cases p <;> rfl
@[simp] theorem setPort_windowTime (s : State) (p : PortId) (m : MasterPort) :
    (s.setPort p m).windowTime = s.windowTime := by cases p <;> rfl
@[simp] theorem setPort_conversionTime (s : State) (p : PortId) (m : MasterPort) :
    (s.setPort p m).conversionTime = s.conversionTime := by cases p <;> rfl
@[simp] theorem setPort_nextChannel (s : State) (p : PortId) (m : MasterPort) :
    (s.setPort p m).nextChannel = s.nextChannel := by cases p <;> rfl
@[simp] theorem setPort_head1 (s : State) (p : PortId) (m : MasterPort) :
    (s.setPort p m).head1 = s.head1 := by cases p <;> rfl
@[simp] theorem setPort_head2 (s : State) (p : PortId) (m : MasterPort) :
    (s.setPort p m).head2 = s.head2 := by cases p <;> rfl
@[simp] theorem setPort_scv (s : State) (p : PortId) (m : MasterPort) :
    (s.setPort p m).scv = s.scv := by cases p <;> rfl
@[simp] theorem setPort_chu (s : State) (p : PortId) (m : MasterPort) :
    (s.setPort p m).chu = s.chu := by cases p <;> rfl
@[simp] theorem setPort_mku (s : State) (p : PortId) (m : MasterPort) :
    (s.setPort p m).mku = s.mku := by cases p <;> rfl
@[simp] theorem setPort_env (s : State) (p : PortId) (m : MasterPort) :
    (s.setPort p m).env = s.env := by cases p <;> rfl
@[simp] theorem setPort_slb (s : State) (p : PortId) (m : MasterPort) :
    (s.setPort p m).slb = s.slb := by cases p <;> rfl
@[simp] theorem setPort_pst (s : State) (p : PortId) (m : MasterPort) :
    (s.setPort p m).pst = s.pst := by cases p <;> rfl
@[simp] theorem setPort_adv (s : State) (p : PortId) (m : MasterPort) :
    (s.setPort p m).adv = s.adv := by cases p <;> rfl
@[simp] theorem setPort_locks (s : State) (p : PortId) (m : MasterPort) :
    (s.setPort p m).locks = s.locks := by cases p <;> rfl
@[simp] theorem setPort_signals (s : State) (p : PortId) (m : MasterPort) :
    (s.setPort p m).signals = s.signals := by cases p <;> rfl
@[simp] theorem setPort_setup (s : State) (p : PortId) (m : MasterPort) :
    (s.setPort p m).setup = s.setup := by cases p <;> rfl
@[simp] theorem setPort_freeCount (s : State) (p : PortId) (m : MasterPort) :
    (s.setPort p m).freeCount = s.freeCount := by cases p <;> rfl
@[simp] theorem setPort_port_self (s : State) (p : PortId) (m : MasterPort) :
    (s.setPort p m).port p = m := by cases p <;> rfl
theorem setPort_port (s : State) (p q : PortId) (m : MasterPort) :
    (s.setPort p m).port q = if q = p then m else s.port q := by cases p <;> cases q <;> rfl
@[simp] theorem setPort_setPort (s : State) (p : PortId) (m n : MasterPort) :
    (s.setPort p m).setPort p n = s.setPort p n := by cases p <;> rfl
@[simp] theorem setPort_head (s : State) (p : PortId) (m : MasterPort) (h : HeadId) :
    (s.setPort p m).head h = s.head h := by cases p <;> cases h <;> rfl

/-! ## mapPorts -/

@[simp] theorem mapPorts_pending (s : State) (g : PortId → MasterPort → MasterPort) :
    (s.mapPorts g).pending = s.pending := rfl
@[simp] theorem mapPorts_timebase (s : State) (g : PortId → MasterPort → MasterPort) :
    (s.mapPorts g).timebase = s.timebase := rfl
@[simp] theorem mapPorts_windowTime (s : State) (g : PortId → MasterPort → MasterPort) :
    (s.mapPorts g).windowTime = s.windowTime := rfl
@[simp] theorem mapPorts_conversionTime (s : State) (g : PortId → MasterPort → MasterPort) :
    (s.mapPorts g).conversionTime = s.conversionTime := rfl
@[simp] theorem mapPorts_nextChannel (s : State) (g : PortId → MasterPort → MasterPort) :
    (s.mapPorts g).nextChannel = s.nextChannel := rfl
@[simp] theorem mapPorts_head1 (s : State) (g : PortId → MasterPort → MasterPort) :
    (s.mapPorts g).head1 = s.head1 := rfl
@[simp] theorem mapPorts_head2 (s : State) (g : PortId → MasterPort → MasterPort) :
    (s.mapPorts g).head2 = s.head2 := rfl
@[simp] theorem mapPorts_scv (s : State) (g : PortId → MasterPort → MasterPort) :
    (s.mapPorts g).scv = s.scv := rfl
@[simp] theorem mapPorts_chu (s : State) (g : PortId → MasterPort → MasterPort) :
    (s.mapPorts g).chu = s.chu := rfl
@[simp] theorem mapPorts_mku (s : State) (g : PortId → MasterPort → MasterPort) :
    (s.mapPorts g).mku = s.mku := rfl
@[simp] theorem mapPorts_env (s : State) (g : PortId → MasterPort → MasterPort) :
    (s.mapPorts g).env = s.env := rfl
@[simp] theorem mapPorts_slb (s : State) (g : PortId → MasterPort → MasterPort) :
    (s.mapPorts g).slb = s.slb := rfl
@[simp] theorem mapPorts_pst (s : State) (g : PortId → MasterPort → MasterPort) :
    (s.mapPorts g).pst = s.pst := rfl
@[simp] theorem mapPorts_adv (s : State) (g : PortId → MasterPort → MasterPort) :
    (s.mapPorts g).adv = s.adv := rfl
@[simp] theorem mapPorts_locks (s : State) (g : PortId → MasterPort → MasterPort) :
    (s.mapPorts g).locks = s.locks := rfl
@[simp] theorem mapPorts_signals (s : State) (g : PortId → MasterPort → MasterPort) :
    (s.mapPorts g).signals = s.signals := rfl
@[simp] theorem mapPorts_setup (s : State) (g : PortId → MasterPort → MasterPort) :
    (s.mapPorts g).setup = s.setup := rfl
@[simp] theorem mapPorts_freeCount (s : State) (g : PortId → MasterPort → MasterPort) :
    (s.mapPorts g).freeCount = s.freeCount := rfl
@[simp] theorem mapPorts_port (s : State) (g : PortId → MasterPort → MasterPort) (p : PortId) :
    (s.mapPorts g).port p = g p (s.port p) := by cases p <;> rfl
@[simp] theorem mapPorts_head (s : State) (g : PortId → MasterPort → MasterPort) (h : HeadId) :
    (s.mapPorts g).head h = s.head h := by cases h <;> rfl

/-! ## raiseAll -/

@[simp] theorem raiseAll_pending (e : Event) (s : State) :
    (raiseAll e s).pending = s.pending := rfl
@[simp] theorem raiseAll_timebase (e : Event) (s : State) :
    (raiseAll e s).timebase = s.timebase := rfl
@[simp] theorem raiseAll_windowTime (e : Event) (s : State) :
    (raiseAll e s).windowTime = s.windowTime := rfl
@[simp] theorem raiseAll_conversionTime (e : Event) (s : State) :
    (raiseAll e s).conversionTime = s.conversionTime := rfl
@[simp] theorem raiseAll_nextChannel (e : Event) (s : State) :
    (raiseAll e s).nextChannel = s.nextChannel := rfl
@[simp] theorem raiseAll_head1 (e : Event) (s : State) :
    (raiseAll e s).head1 = s.head1 := rfl
@[simp] theorem raiseAll_head2 (e : Event) (s : State) :
    (raiseAll e s).head2 = s.head2 := rfl
@[simp] theorem raiseAll_scv (e : Event) (s : State) :
    (raiseAll e s).scv = s.scv := rfl
@[simp] theorem raiseAll_chu (e : Event) (s : State) :
    (raiseAll e s).chu = s.chu := rfl
@[simp] theorem raiseAll_mku (e : Event) (s : State) :
    (raiseAll e s).mku = s.mku := rfl
@[simp] theorem raiseAll_env (e : Event) (s : State) :
    (raiseAll e s).env = s.env := rfl
@[simp] theorem raiseAll_slb (e : Event) (s : State) :
    (raiseAll e s).slb = s.slb := rfl
@[simp] theorem raiseAll_pst (e : Event) (s : State) :
    (raiseAll e s).pst = s.pst := rfl
@[simp] theorem raiseAll_adv (e : Event) (s : State) :
    (raiseAll e s).adv = s.adv := rfl
@[simp] theorem raiseAll_locks (e : Event) (s : State) :
    (raiseAll e s).locks = s.locks := rfl
@[simp] theorem raiseAll_signals (e : Event) (s : State) :
    (raiseAll e s).signals = s.signals := rfl
@[simp] theorem raiseAll_setup (e : Event) (s : State) :
    (raiseAll e s).setup = s.setup := rfl
@[simp] theorem raiseAll_freeCount (e : Event) (s : State) :
    (raiseAll e s).freeCount = s.freeCount := rfl
@[simp] theorem raiseAll_port (e : Event) (s : State) (p : PortId) :
    (raiseAll e s).port p = { s.port p with latch := latched e (s.port p).latch } := by cases p <;> rfl
@[simp] theorem raiseAll_head (e : Event) (s : State) (h : HeadId) :
    (raiseAll e s).head h = s.head h := by cases h <;> rfl

/-! ## setSlot, setCursorOf, setLock, setStale, useFree -/

@[simp] theorem setSlot_pending (p : PortId) (x : Slot) (s : State) :
    (setSlot p x s).pending = s.pending := by cases p <;> rfl
@[simp] theorem setSlot_timebase (p : PortId) (x : Slot) (s : State) :
    (setSlot p x s).timebase = s.timebase := by cases p <;> rfl
@[simp] theorem setSlot_windowTime (p : PortId) (x : Slot) (s : State) :
    (setSlot p x s).windowTime = s.windowTime := by cases p <;> rfl
@[simp] theorem setSlot_conversionTime (p : PortId) (x : Slot) (s : State) :
    (setSlot p x s).conversionTime = s.conversionTime := by cases p <;> rfl
@[simp] theorem setSlot_nextChannel (p : PortId) (x : Slot) (s : State) :
    (setSlot p x s).nextChannel = s.nextChannel := by cases p <;> rfl
@[simp] theorem setSlot_head1 (p : PortId) (x : Slot) (s : State) :
    (setSlot p x s).head1 = s.head1 := by cases p <;> rfl
@[simp] theorem setSlot_head2 (p : PortId) (x : Slot) (s : State) :
    (setSlot p x s).head2 = s.head2 := by cases p <;> rfl
@[simp] theorem setSlot_scv (p : PortId) (x : Slot) (s : State) :
    (setSlot p x s).scv = s.scv := by cases p <;> rfl
@[simp] theorem setSlot_chu (p : PortId) (x : Slot) (s : State) :
    (setSlot p x s).chu = s.chu := by cases p <;> rfl
@[simp] theorem setSlot_mku (p : PortId) (x : Slot) (s : State) :
    (setSlot p x s).mku = s.mku := by cases p <;> rfl
@[simp] theorem setSlot_env (p : PortId) (x : Slot) (s : State) :
    (setSlot p x s).env = s.env := by cases p <;> rfl
@[simp] theorem setSlot_slb (p : PortId) (x : Slot) (s : State) :
    (setSlot p x s).slb = s.slb := by cases p <;> rfl
@[simp] theorem setSlot_pst (p : PortId) (x : Slot) (s : State) :
    (setSlot p x s).pst = s.pst := by cases p <;> rfl
@[simp] theorem setSlot_adv (p : PortId) (x : Slot) (s : State) :
    (setSlot p x s).adv = s.adv := by cases p <;> rfl
@[simp] theorem setSlot_locks (p : PortId) (x : Slot) (s : State) :
    (setSlot p x s).locks = s.locks := by cases p <;> rfl
@[simp] theorem setSlot_signals (p : PortId) (x : Slot) (s : State) :
    (setSlot p x s).signals = s.signals := by cases p <;> rfl
@[simp] theorem setSlot_setup (p : PortId) (x : Slot) (s : State) :
    (setSlot p x s).setup = s.setup := by cases p <;> rfl
@[simp] theorem setSlot_freeCount (p : PortId) (x : Slot) (s : State) :
    (setSlot p x s).freeCount = s.freeCount := by cases p <;> rfl
@[simp] theorem setSlot_port_self (p : PortId) (x : Slot) (s : State) :
    (setSlot p x s).port p = { s.port p with slot := x } := by cases p <;> rfl
@[simp] theorem setCursorOf_pending (p : PortId) (c : Cursor) (s : State) :
    (setCursorOf p c s).pending = s.pending := rfl
@[simp] theorem setCursorOf_timebase (p : PortId) (c : Cursor) (s : State) :
    (setCursorOf p c s).timebase = s.timebase := rfl
@[simp] theorem setCursorOf_windowTime (p : PortId) (c : Cursor) (s : State) :
    (setCursorOf p c s).windowTime = s.windowTime := rfl
@[simp] theorem setCursorOf_conversionTime (p : PortId) (c : Cursor) (s : State) :
    (setCursorOf p c s).conversionTime = s.conversionTime := rfl
@[simp] theorem setCursorOf_nextChannel (p : PortId) (c : Cursor) (s : State) :
    (setCursorOf p c s).nextChannel = s.nextChannel := rfl
@[simp] theorem setCursorOf_head1 (p : PortId) (c : Cursor) (s : State) :
    (setCursorOf p c s).head1 = s.head1 := rfl
@[simp] theorem setCursorOf_head2 (p : PortId) (c : Cursor) (s : State) :
    (setCursorOf p c s).head2 = s.head2 := rfl
@[simp] theorem setCursorOf_scv (p : PortId) (c : Cursor) (s : State) :
    (setCursorOf p c s).scv = s.scv := rfl
@[simp] theorem setCursorOf_chu (p : PortId) (c : Cursor) (s : State) :
    (setCursorOf p c s).chu = s.chu := rfl
@[simp] theorem setCursorOf_mku (p : PortId) (c : Cursor) (s : State) :
    (setCursorOf p c s).mku = s.mku := rfl
@[simp] theorem setCursorOf_env (p : PortId) (c : Cursor) (s : State) :
    (setCursorOf p c s).env = s.env := rfl
@[simp] theorem setCursorOf_slb (p : PortId) (c : Cursor) (s : State) :
    (setCursorOf p c s).slb = s.slb := rfl
@[simp] theorem setCursorOf_adv (p : PortId) (c : Cursor) (s : State) :
    (setCursorOf p c s).adv = s.adv := rfl
@[simp] theorem setCursorOf_port0 (p : PortId) (c : Cursor) (s : State) :
    (setCursorOf p c s).port0 = s.port0 := rfl
@[simp] theorem setCursorOf_port1 (p : PortId) (c : Cursor) (s : State) :
    (setCursorOf p c s).port1 = s.port1 := rfl
@[simp] theorem setCursorOf_port2 (p : PortId) (c : Cursor) (s : State) :
    (setCursorOf p c s).port2 = s.port2 := rfl
@[simp] theorem setCursorOf_locks (p : PortId) (c : Cursor) (s : State) :
    (setCursorOf p c s).locks = s.locks := rfl
@[simp] theorem setCursorOf_signals (p : PortId) (c : Cursor) (s : State) :
    (setCursorOf p c s).signals = s.signals := rfl
@[simp] theorem setCursorOf_setup (p : PortId) (c : Cursor) (s : State) :
    (setCursorOf p c s).setup = s.setup := rfl
@[simp] theorem setCursorOf_freeCount (p : PortId) (c : Cursor) (s : State) :
    (setCursorOf p c s).freeCount = s.freeCount := rfl
@[simp] theorem setCursor_cursor_self (t : ProfileStore) (p : PortId) (c : Cursor) :
    (t.setCursor p c).cursor p = c := by cases p <;> rfl
theorem setCursor_cursor (t : ProfileStore) (p q : PortId) (c : Cursor) :
    (t.setCursor p c).cursor q = if q = p then c else t.cursor q := by cases p <;> cases q <;> rfl
@[simp] theorem setCursor_records (t : ProfileStore) (p : PortId) (c : Cursor) :
    (t.setCursor p c).records = t.records := by cases p <;> rfl
@[simp] theorem setCursor_nextSeq (t : ProfileStore) (p : PortId) (c : Cursor) :
    (t.setCursor p c).nextSeq = t.nextSeq := by cases p <;> rfl
@[simp] theorem setCursor_holder (t : ProfileStore) (p : PortId) (c : Cursor) :
    (t.setCursor p c).holder = t.holder := by cases p <;> rfl
@[simp] theorem setCursor_commitWaiting (t : ProfileStore) (p : PortId) (c : Cursor) :
    (t.setCursor p c).commitWaiting = t.commitWaiting := by cases p <;> rfl
@[simp] theorem setCursor_lastGranted (t : ProfileStore) (p : PortId) (c : Cursor) :
    (t.setCursor p c).lastGranted = t.lastGranted := by cases p <;> rfl
@[simp] theorem setCursor_commitBlocked (t : ProfileStore) (p : PortId) (c : Cursor) :
    (t.setCursor p c).commitBlocked = t.commitBlocked := by cases p <;> rfl
@[simp] theorem setCursor_testRefused (t : ProfileStore) (p : PortId) (c : Cursor) :
    (t.setCursor p c).testRefused = t.testRefused := by cases p <;> rfl
@[simp] theorem setCursor_retryKept (t : ProfileStore) (p : PortId) (c : Cursor) :
    (t.setCursor p c).retryKept = t.retryKept := by cases p <;> rfl
@[simp] theorem setLock_pending (k : Lock) (v : Option PortId) (s : State) :
    (setLock k v s).pending = s.pending := rfl
@[simp] theorem setLock_timebase (k : Lock) (v : Option PortId) (s : State) :
    (setLock k v s).timebase = s.timebase := rfl
@[simp] theorem setLock_windowTime (k : Lock) (v : Option PortId) (s : State) :
    (setLock k v s).windowTime = s.windowTime := rfl
@[simp] theorem setLock_conversionTime (k : Lock) (v : Option PortId) (s : State) :
    (setLock k v s).conversionTime = s.conversionTime := rfl
@[simp] theorem setLock_nextChannel (k : Lock) (v : Option PortId) (s : State) :
    (setLock k v s).nextChannel = s.nextChannel := rfl
@[simp] theorem setLock_head1 (k : Lock) (v : Option PortId) (s : State) :
    (setLock k v s).head1 = s.head1 := rfl
@[simp] theorem setLock_head2 (k : Lock) (v : Option PortId) (s : State) :
    (setLock k v s).head2 = s.head2 := rfl
@[simp] theorem setLock_scv (k : Lock) (v : Option PortId) (s : State) :
    (setLock k v s).scv = s.scv := rfl
@[simp] theorem setLock_chu (k : Lock) (v : Option PortId) (s : State) :
    (setLock k v s).chu = s.chu := rfl
@[simp] theorem setLock_mku (k : Lock) (v : Option PortId) (s : State) :
    (setLock k v s).mku = s.mku := rfl
@[simp] theorem setLock_env (k : Lock) (v : Option PortId) (s : State) :
    (setLock k v s).env = s.env := rfl
@[simp] theorem setLock_slb (k : Lock) (v : Option PortId) (s : State) :
    (setLock k v s).slb = s.slb := rfl
@[simp] theorem setLock_pst (k : Lock) (v : Option PortId) (s : State) :
    (setLock k v s).pst = s.pst := rfl
@[simp] theorem setLock_adv (k : Lock) (v : Option PortId) (s : State) :
    (setLock k v s).adv = s.adv := rfl
@[simp] theorem setLock_port0 (k : Lock) (v : Option PortId) (s : State) :
    (setLock k v s).port0 = s.port0 := rfl
@[simp] theorem setLock_port1 (k : Lock) (v : Option PortId) (s : State) :
    (setLock k v s).port1 = s.port1 := rfl
@[simp] theorem setLock_port2 (k : Lock) (v : Option PortId) (s : State) :
    (setLock k v s).port2 = s.port2 := rfl
@[simp] theorem setLock_signals (k : Lock) (v : Option PortId) (s : State) :
    (setLock k v s).signals = s.signals := rfl
@[simp] theorem setLock_setup (k : Lock) (v : Option PortId) (s : State) :
    (setLock k v s).setup = s.setup := rfl
@[simp] theorem setLock_freeCount (k : Lock) (v : Option PortId) (s : State) :
    (setLock k v s).freeCount = s.freeCount := rfl
theorem setHolder_holder (l : LockTable) (k j : Lock) (v : Option PortId) :
    (l.setHolder k v).holder j = if j = k then v else l.holder j := by cases k <;> cases j <;> rfl
@[simp] theorem setStale_pending (s : State) (h : HeadId) (b : Bool) :
    (setStale s h b).pending = s.pending := by cases h <;> rfl
@[simp] theorem setStale_timebase (s : State) (h : HeadId) (b : Bool) :
    (setStale s h b).timebase = s.timebase := by cases h <;> rfl
@[simp] theorem setStale_windowTime (s : State) (h : HeadId) (b : Bool) :
    (setStale s h b).windowTime = s.windowTime := by cases h <;> rfl
@[simp] theorem setStale_conversionTime (s : State) (h : HeadId) (b : Bool) :
    (setStale s h b).conversionTime = s.conversionTime := by cases h <;> rfl
@[simp] theorem setStale_nextChannel (s : State) (h : HeadId) (b : Bool) :
    (setStale s h b).nextChannel = s.nextChannel := by cases h <;> rfl
@[simp] theorem setStale_head1 (s : State) (h : HeadId) (b : Bool) :
    (setStale s h b).head1 = s.head1 := by cases h <;> rfl
@[simp] theorem setStale_head2 (s : State) (h : HeadId) (b : Bool) :
    (setStale s h b).head2 = s.head2 := by cases h <;> rfl
@[simp] theorem setStale_scv (s : State) (h : HeadId) (b : Bool) :
    (setStale s h b).scv = s.scv := by cases h <;> rfl
@[simp] theorem setStale_chu (s : State) (h : HeadId) (b : Bool) :
    (setStale s h b).chu = s.chu := by cases h <;> rfl
@[simp] theorem setStale_mku (s : State) (h : HeadId) (b : Bool) :
    (setStale s h b).mku = s.mku := by cases h <;> rfl
@[simp] theorem setStale_env (s : State) (h : HeadId) (b : Bool) :
    (setStale s h b).env = s.env := by cases h <;> rfl
@[simp] theorem setStale_pst (s : State) (h : HeadId) (b : Bool) :
    (setStale s h b).pst = s.pst := by cases h <;> rfl
@[simp] theorem setStale_adv (s : State) (h : HeadId) (b : Bool) :
    (setStale s h b).adv = s.adv := by cases h <;> rfl
@[simp] theorem setStale_port0 (s : State) (h : HeadId) (b : Bool) :
    (setStale s h b).port0 = s.port0 := by cases h <;> rfl
@[simp] theorem setStale_port1 (s : State) (h : HeadId) (b : Bool) :
    (setStale s h b).port1 = s.port1 := by cases h <;> rfl
@[simp] theorem setStale_port2 (s : State) (h : HeadId) (b : Bool) :
    (setStale s h b).port2 = s.port2 := by cases h <;> rfl
@[simp] theorem setStale_locks (s : State) (h : HeadId) (b : Bool) :
    (setStale s h b).locks = s.locks := by cases h <;> rfl
@[simp] theorem setStale_signals (s : State) (h : HeadId) (b : Bool) :
    (setStale s h b).signals = s.signals := by cases h <;> rfl
@[simp] theorem setStale_setup (s : State) (h : HeadId) (b : Bool) :
    (setStale s h b).setup = s.setup := by cases h <;> rfl
@[simp] theorem setStale_freeCount (s : State) (h : HeadId) (b : Bool) :
    (setStale s h b).freeCount = s.freeCount := by cases h <;> rfl
@[simp] theorem useFree_pending (s : State) :
    (useFree s).pending = s.pending := rfl
@[simp] theorem useFree_timebase (s : State) :
    (useFree s).timebase = s.timebase := rfl
@[simp] theorem useFree_windowTime (s : State) :
    (useFree s).windowTime = s.windowTime := rfl
@[simp] theorem useFree_conversionTime (s : State) :
    (useFree s).conversionTime = s.conversionTime := rfl
@[simp] theorem useFree_nextChannel (s : State) :
    (useFree s).nextChannel = s.nextChannel := rfl
@[simp] theorem useFree_head1 (s : State) :
    (useFree s).head1 = s.head1 := rfl
@[simp] theorem useFree_head2 (s : State) :
    (useFree s).head2 = s.head2 := rfl
@[simp] theorem useFree_scv (s : State) :
    (useFree s).scv = s.scv := rfl
@[simp] theorem useFree_chu (s : State) :
    (useFree s).chu = s.chu := rfl
@[simp] theorem useFree_mku (s : State) :
    (useFree s).mku = s.mku := rfl
@[simp] theorem useFree_env (s : State) :
    (useFree s).env = s.env := rfl
@[simp] theorem useFree_slb (s : State) :
    (useFree s).slb = s.slb := rfl
@[simp] theorem useFree_pst (s : State) :
    (useFree s).pst = s.pst := rfl
@[simp] theorem useFree_adv (s : State) :
    (useFree s).adv = s.adv := rfl
@[simp] theorem useFree_port0 (s : State) :
    (useFree s).port0 = s.port0 := rfl
@[simp] theorem useFree_port1 (s : State) :
    (useFree s).port1 = s.port1 := rfl
@[simp] theorem useFree_port2 (s : State) :
    (useFree s).port2 = s.port2 := rfl
@[simp] theorem useFree_locks (s : State) :
    (useFree s).locks = s.locks := rfl
@[simp] theorem useFree_signals (s : State) :
    (useFree s).signals = s.signals := rfl
@[simp] theorem useFree_setup (s : State) :
    (useFree s).setup = s.setup := rfl
@[simp] theorem countEvents_pending (h : HeadId) (c : CounterClass) (n : Nat) (s : State) :
    (countEvents h c n s).pending = s.pending := by unfold countEvents; split <;> simp
@[simp] theorem countEvents_timebase (h : HeadId) (c : CounterClass) (n : Nat) (s : State) :
    (countEvents h c n s).timebase = s.timebase := by unfold countEvents; split <;> simp
@[simp] theorem countEvents_windowTime (h : HeadId) (c : CounterClass) (n : Nat) (s : State) :
    (countEvents h c n s).windowTime = s.windowTime := by unfold countEvents; split <;> simp
@[simp] theorem countEvents_conversionTime (h : HeadId) (c : CounterClass) (n : Nat) (s : State) :
    (countEvents h c n s).conversionTime = s.conversionTime := by unfold countEvents; split <;> simp
@[simp] theorem countEvents_nextChannel (h : HeadId) (c : CounterClass) (n : Nat) (s : State) :
    (countEvents h c n s).nextChannel = s.nextChannel := by unfold countEvents; split <;> simp
@[simp] theorem countEvents_scv (h : HeadId) (c : CounterClass) (n : Nat) (s : State) :
    (countEvents h c n s).scv = s.scv := by unfold countEvents; split <;> simp
@[simp] theorem countEvents_chu (h : HeadId) (c : CounterClass) (n : Nat) (s : State) :
    (countEvents h c n s).chu = s.chu := by unfold countEvents; split <;> simp
@[simp] theorem countEvents_mku (h : HeadId) (c : CounterClass) (n : Nat) (s : State) :
    (countEvents h c n s).mku = s.mku := by unfold countEvents; split <;> simp
@[simp] theorem countEvents_env (h : HeadId) (c : CounterClass) (n : Nat) (s : State) :
    (countEvents h c n s).env = s.env := by unfold countEvents; split <;> simp
@[simp] theorem countEvents_slb (h : HeadId) (c : CounterClass) (n : Nat) (s : State) :
    (countEvents h c n s).slb = s.slb := by unfold countEvents; split <;> simp
@[simp] theorem countEvents_pst (h : HeadId) (c : CounterClass) (n : Nat) (s : State) :
    (countEvents h c n s).pst = s.pst := by unfold countEvents; split <;> simp
@[simp] theorem countEvents_adv (h : HeadId) (c : CounterClass) (n : Nat) (s : State) :
    (countEvents h c n s).adv = s.adv := by unfold countEvents; split <;> simp
@[simp] theorem countEvents_port0 (h : HeadId) (c : CounterClass) (n : Nat) (s : State) :
    (countEvents h c n s).port0 = s.port0 := by unfold countEvents; split <;> simp
@[simp] theorem countEvents_port1 (h : HeadId) (c : CounterClass) (n : Nat) (s : State) :
    (countEvents h c n s).port1 = s.port1 := by unfold countEvents; split <;> simp
@[simp] theorem countEvents_port2 (h : HeadId) (c : CounterClass) (n : Nat) (s : State) :
    (countEvents h c n s).port2 = s.port2 := by unfold countEvents; split <;> simp
@[simp] theorem countEvents_locks (h : HeadId) (c : CounterClass) (n : Nat) (s : State) :
    (countEvents h c n s).locks = s.locks := by unfold countEvents; split <;> simp
@[simp] theorem countEvents_signals (h : HeadId) (c : CounterClass) (n : Nat) (s : State) :
    (countEvents h c n s).signals = s.signals := by unfold countEvents; split <;> simp
@[simp] theorem countEvents_setup (h : HeadId) (c : CounterClass) (n : Nat) (s : State) :
    (countEvents h c n s).setup = s.setup := by unfold countEvents; split <;> simp
@[simp] theorem countEvents_freeCount (h : HeadId) (c : CounterClass) (n : Nat) (s : State) :
    (countEvents h c n s).freeCount = s.freeCount := by unfold countEvents; split <;> simp

/-- What counting events does to the head (R23). -/
theorem countEvents_head (h : HeadId) (c : CounterClass) (n : Nat) (s : State) :
    (countEvents h c n s).head h =
      if (s.head h).selection = c then { s.head h with counter := addSat Config.sat8 (s.head h).counter n } else s.head h := by
  unfold countEvents; split <;> simp_all

end Sys2Proof.Machine
end

