-- ==== Sys2Proof/Laws/Arbiter.lean ====
section
/-! SUPPORT. What the Store Arbiter and a delivery can do, case by case: who holds the store after a release, what a granted port's step
is, and what becomes of a delivered revolution. -/

namespace Sys2Proof.Machine

/-! ## Who may be granted the store -/

theorem anyPortWaiting_eq_false (s : State) : anyPortWaiting s = false ↔ ∀ p, portWaiting s p = false := by
  unfold anyPortWaiting
  constructor
  · intro h p; cases p <;> simp_all
  · intro h; simp [h]

theorem storeFree_iff (s : State) : storeFree s = true ↔ s.pst.holder = .none ∧ ∀ p, portWaiting s p = false := by
  rw [← anyPortWaiting_eq_false]; simp [storeFree]

theorem nextWaiting_waits {s : State} {p : PortId} (h : nextWaiting s = some p) : portWaiting s p = true :=
  List.find?_some h

/-- A port is asked of by its slot alone, so the rotation does not see a change of anything else but the last port granted. -/
theorem nextWaiting_congr {s t : State} (hl : s.pst.lastGranted = t.pst.lastGranted)
    (hp : ∀ p, portWaiting s p = portWaiting t p) : nextWaiting s = nextWaiting t := by
  unfold nextWaiting; rw [hl, show portWaiting s = portWaiting t from funext hp]

/-! ## Releases -/

/-- The released store goes to the next waiting port, which is then the last one granted, or to nobody. -/
theorem grantNextPort_cases (s : State) :
    (∃ p, nextWaiting s = some p ∧ grantNextPort s = grantPort p s) ∨
    (nextWaiting s = none ∧ grantNextPort s = { s with pst := { s.pst with holder := .none } }) := by
  unfold grantNextPort
  cases h : nextWaiting s with
  | none => exact .inr ⟨rfl, rfl⟩
  | some p => exact .inl ⟨p, rfl, rfl⟩

theorem grantNextPort_ne_commitPath (s : State) : (grantNextPort s).pst.holder ≠ .commitPath := by
  rcases grantNextPort_cases s with ⟨p, _, h⟩ | ⟨_, h⟩ <;> rw [h] <;> exact Holder.noConfusion

/-- A port's release grants a waiting commit before any port. -/
theorem releaseByPort_cases (s : State) :
    (s.pst.commitWaiting = true ∧ releaseByPort s = grantCommit s) ∨
    (s.pst.commitWaiting = false ∧ releaseByPort s = grantNextPort s) := by
  unfold releaseByPort; cases s.pst.commitWaiting <;> simp

/-- The commit path's release grants a waiting port first, and asks again for the next pending slice. -/
theorem releaseByCommit_cases (s : State) :
    ((endCommitHold s).slb.pendingSlices = [] ∧ releaseByCommit s = endCommitHold s) ∨
    ((endCommitHold s).slb.pendingSlices ≠ [] ∧ releaseByCommit s = askCommit (endCommitHold s)) := by
  unfold releaseByCommit
  cases h : (endCommitHold s).slb.pendingSlices with
  | nil => exact .inl ⟨rfl, by simp [h]⟩
  | cons x rest => exact .inr ⟨List.cons_ne_nil x rest, by simp [h]⟩

/-! ## The step of a granted port -/

theorem finishGrant_holder {s : State} {p : PortId} {q : StoreRequest} {echo : Byte} (hh : s.pst.holder = .port p)
    (hs : (s.port p).slot = .working q echo) : finishGrant p s = grantAndServe p q echo s := by simp [finishGrant, hh, hs]

theorem finishGrant_other {s : State} {p : PortId} (h : s.pst.holder ≠ .port p ∨ portWaiting s p = false) :
    finishGrant p s = s := by
  unfold finishGrant
  split
  · rename_i g q echo hh hs
    rcases h with h | h
    · rw [if_neg]; rintro rfl; exact h hh
    · simp [portWaiting, hs] at h
  · rfl

theorem grantWaiting_holder {s : State} {p : PortId} (h : s.pst.holder = .port p) : grantWaiting s = finishGrant p s := by
  simp [grantWaiting, h]

theorem grantWaiting_other {s : State} (h : ∀ p, s.pst.holder ≠ .port p) : grantWaiting s = s := by
  unfold grantWaiting; split
  · rename_i p hp; exact absurd hp (h p)
  · rfl

/-! ## Deliveries -/

/-- What becomes of a delivered revolution (R81): nothing outside RUNNING, LATE when stale, nothing while the direction is
UNDETERMINED or the quality LOST, and otherwise the choice of R83. -/
theorem deliver_cases (v : Delivery) (s : State) :
    (s.slb.run ≠ .running ∧ deliver v s = s) ∨
    (s.slb.run = .running ∧ staleMark s v.head = true ∧ deliver v s = discardStale v.head s) ∨
    (s.slb.run = .running ∧ staleMark s v.head = false ∧ (s.slb.direction = none ∨ s.chu.quality = .lost) ∧ deliver v s = s) ∨
    (∃ d, s.slb.run = .running ∧ staleMark s v.head = false ∧ s.slb.direction = some d ∧ s.chu.quality ≠ .lost ∧
      deliver v s = chooseSlice v d s) := by
  unfold deliver
  by_cases hr : s.slb.run = .running
  · rw [if_pos hr]
    cases hm : staleMark s v.head with
    | true => exact .inr (.inl ⟨hr, rfl, rfl⟩)
    | false =>
      cases hd : s.slb.direction with
      | none => exact .inr (.inr (.inl ⟨hr, rfl, .inl rfl, rfl⟩))
      | some d =>
        by_cases hq : s.chu.quality = .lost
        · exact .inr (.inr (.inl ⟨hr, rfl, .inr hq, by simp [hq]⟩))
        · exact .inr (.inr (.inr ⟨d, hr, rfl, rfl, hq, by simp [hq]⟩))
  · exact .inl ⟨hr, if_neg hr⟩

/-! ## Links -/

/-- The event of the link timer takes the link DOWN exactly when its time has run out (R171). -/
theorem linkExpires_cases (p : PortId) (s : State) :
    (linkExpired p s = true ∧ linkExpires p s = linkDown p s) ∨ (linkExpired p s = false ∧ linkExpires p s = s) := by
  unfold linkExpires; cases linkExpired p s <;> simp

end Sys2Proof.Machine
end

