-- ==== Sys2Proof/Laws/Bytes.lean ====
section
/-! SUPPORT. Bytes on the wire: lengths, reading back what was written, and the check value of a frame the part forms. -/

namespace Sys2Proof.Machine

@[simp] theorem bytesOf_length (n : Nat) (v : Int) : (bytesOf n v).length = n := by
  induction n generalizing v with
  | zero => rfl
  | succ n ih => simp [bytesOf, ih]

theorem natOf_append (xs ys : List Byte) : natOf (xs ++ ys) = natOf xs * 256 ^ ys.length + natOf ys := by
  have step : ∀ (zs : List Byte) (a : Nat), zs.foldl (fun v (b : Byte) => v * 256 + b.toNat) a = a * 256 ^ zs.length + natOf zs := by
    intro zs
    induction zs with
    | nil => intro a; simp [natOf]
    | cons z zs ih =>
      intro a
      simp only [natOf, List.foldl_cons, List.length_cons]
      rw [ih, ih (0 * 256 + z.toNat), Nat.pow_succ]
      simp only [natOf]
      ring
  simp only [natOf, List.foldl_append]
  exact step ys _

/-- Reading back an unsigned number that fits (R185). -/
theorem natOf_bytesOf (n v : Nat) (h : v < 256 ^ n) : natOf (bytesOf n v) = v := by
  induction n generalizing v with
  | zero => simp at h; subst h; rfl
  | succ n ih =>
    have hq : v / 256 < 256 ^ n := by
      rw [Nat.pow_succ] at h
      exact Nat.div_lt_of_lt_mul (by omega)
    have hd : ((v : Int) / 256) = ((v / 256 : Nat) : Int) := by omega
    have hb : (BitVec.ofInt 8 (v : Int)).toNat = v % 256 := by
      rw [BitVec.ofInt_natCast, BitVec.toNat_ofNat]
    rw [bytesOf, natOf_append, hd, ih _ hq]
    simp only [natOf, List.foldl_cons, List.foldl_nil, List.length_cons, List.length_nil, hb]
    omega

/-- A word written and read back is the word (R185). -/
theorem ofNat_natOf_bytesOf (w n : Nat) (x : BitVec w) (h : 2 ^ w ≤ 256 ^ n) :
    BitVec.ofNat w (natOf (bytesOf n x.toNat)) = x := by
  rw [natOf_bytesOf n x.toNat (lt_of_lt_of_le x.isLt h)]
  simp

@[simp] theorem withCheck_length (body : List Byte) : (withCheck body).length = body.length + 2 := by simp [withCheck]

/-- A frame formed with its check value passes the check (R1). -/
@[simp] theorem checkMatches_withCheck (body : List Byte) : checkMatches (withCheck body) = true := by
  simp [checkMatches, withCheck]

theorem answerFrame_length (a : Answer) : (answerFrame a).length = a.payload.length + 6 := by
  simp [answerFrame]
  omega

end Sys2Proof.Machine
end

