-- ==== Sys2Proof/Laws/Events.lean ====
section
/-! SUPPORT. What raising an event, counting an event of a head, evaluating the advice and reporting a close leave. -/

namespace Sys2Proof.Machine

theorem setHead_same (s : State) (h : HeadId) : s.setHead h (s.head h) = s := by cases h <;> rfl

/-- One event of a head is what `counted` says. -/
theorem countEvents_one (h : HeadId) (c : CounterClass) (s : State) : countEvents h c 1 s = s.setHead h (counted c (s.head h)) := by
  unfold countEvents counted addSat
  split
  · rfl
  · rw [setHead_same]

@[simp] theorem counted_state (c : CounterClass) (r : HeadReceiver) : (counted c r).state = r.state := by
  unfold counted; split <;> rfl
@[simp] theorem counted_rate (c : CounterClass) (r : HeadReceiver) : (counted c r).rate = r.rate := by
  unfold counted; split <;> rfl
@[simp] theorem counted_openRev (c : CounterClass) (r : HeadReceiver) : (counted c r).openRev = r.openRev := by
  unfold counted; split <;> rfl
@[simp] theorem counted_trainFailures (c : CounterClass) (r : HeadReceiver) : (counted c r).trainFailures = r.trainFailures := by
  unfold counted; split <;> rfl
@[simp] theorem counted_rejectionRun (c : CounterClass) (r : HeadReceiver) : (counted c r).rejectionRun = r.rejectionRun := by
  unfold counted; split <;> rfl

theorem latched_bit (e : Event) (m : EventMask) : (latched e m).getLsbD (eventBit e) = true := by
  cases e <;> simp [latched, eventBit]

theorem latched_keeps (e : Event) (m : EventMask) (i : Nat) (h : m.getLsbD i = true) : (latched e m).getLsbD i = true := by
  simp [latched, h]

/-- An event raised in all latches is outstanding in each. -/
theorem raiseAll_outstanding (e : Event) (s : State) (p : PortId) : outstanding e ((raiseAll e s).port p) = true := by
  cases p <;> exact latched_bit e _

/-- Raising an event leaves what was outstanding. -/
theorem raiseAll_keeps (e f : Event) (s : State) (p : PortId) (h : outstanding f (s.port p) = true) :
    outstanding f ((raiseAll e s).port p) = true := by
  cases p <;> exact latched_keeps e _ _ h

/-- An evaluation sets the advice from the inputs, and raises ADVICE_CHANGE exactly when the level changes. -/
theorem evaluateAdvice_cases (s : State) :
    ((adviceOf s).level = s.adv.advice.level ∧ evaluateAdvice s = { s with adv := { s.adv with advice := adviceOf s } }) ∨
    ((adviceOf s).level ≠ s.adv.advice.level ∧
      evaluateAdvice s = raiseAll .adviceChange { s with adv := { s.adv with advice := adviceOf s } }) := by
  unfold evaluateAdvice
  by_cases h : (adviceOf s).level = s.adv.advice.level
  · exact .inl ⟨h, by simp [h]⟩
  · exact .inr ⟨h, by simp [h]⟩

@[simp] theorem evaluateAdvice_advice (s : State) : (evaluateAdvice s).adv.advice = adviceOf s := by
  rcases evaluateAdvice_cases s with ⟨_, h⟩ | ⟨_, h⟩ <;> exact congrArg (fun t => t.adv.advice) h

@[simp] theorem evaluateAdvice_stopLatch (s : State) : (evaluateAdvice s).adv.stopLatch = s.adv.stopLatch := by
  rcases evaluateAdvice_cases s with ⟨_, h⟩ | ⟨_, h⟩ <;> exact congrArg (fun t => t.adv.stopLatch) h

/-- An evaluation leaves what was outstanding. -/
theorem evaluateAdvice_keeps (f : Event) (s : State) (p : PortId) (h : outstanding f (s.port p) = true) :
    outstanding f ((evaluateAdvice s).port p) = true := by
  rcases evaluateAdvice_cases s with ⟨_, e⟩ | ⟨_, e⟩ <;> rw [e]
  · cases p <;> exact h
  · exact raiseAll_keeps _ _ _ _ (by cases p <;> exact h)

/-- A report is a stop demand that finds the latch clear, and sets it, or changes nothing (R157). -/
theorem reportClass_cases (c : SectorState) (stop : Bool) (s : State) :
    ((c = .infringe ∧ stop = true ∧ s.setup.stopEnable = true ∧ s.adv.stopLatch = false) ∧
      reportClass c stop s =
        evaluateAdvice (raiseAll .stopChange { s with adv := { s.adv with stopLatch := true, lastStop := .set } })) ∨
    (¬(c = .infringe ∧ stop = true ∧ s.setup.stopEnable = true ∧ s.adv.stopLatch = false) ∧ reportClass c stop s = s) := by
  unfold reportClass
  split
  · exact .inl ⟨‹_›, rfl⟩
  · exact .inr ⟨‹_›, rfl⟩

/-- A close appends the closed slice and then reports it (R93). -/
theorem closeRearmost_cons (kind : CloseKind) (x : OpenSlice) (rest : List OpenSlice) (s : State)
    (h : s.slb.openSlices = x :: rest) :
    closeRearmost kind s =
      reportClass (closedSlice kind s x).cls x.header.zone.stop (appendPending (closedSlice kind s x) rest s) := by
  unfold closeRearmost; rw [h]; rfl

end Sys2Proof.Machine
end

