-- ==== Sys2Proof/Laws/Frame.lean ====
section
/-! SUPPORT. What each shared operation can reach. A mask blanks the parts that a family of operations may change; `mask (op s) = mask s`
then says that `op` changes nothing else. A field outside the mask is recovered with `congrArg`, for example
`congrArg State.setup (flush_slices s)` is `(flush s).setup = s.setup`. -/

namespace Sys2Proof.Machine

/-- A port with its event latch blanked. -/
def unlatched (m : MasterPort) : MasterPort := { m with latch := 0 }

/-- Everything but the event latches. -/
def latchMask (s : State) : State :=
  { s with port0 := unlatched s.port0, port1 := unlatched s.port1, port2 := unlatched s.port2 }

/-- Everything but the Profile Store's arbiter and the event latches. -/
def storeMask (s : State) : State := latchMask { s with pst := .reset }

/-- Everything but the latches, the advice, the slices and the store. -/
def slicesMask (s : State) : State := storeMask { s with slb := .reset, adv := .reset 0 }

/-- Everything but what `slicesMask` blanks, the heads and the count of free values. -/
def headsMask (s : State) : State := slicesMask { s with head1 := .reset, head2 := .reset, freeCount := 0 }

/-- Everything but what `slicesMask` blanks, the position and the count of free values. -/
def positionMask (s : State) : State :=
  slicesMask { s with chu := .reset ⟨false, false⟩ ⟨false, false⟩, mku := .reset, freeCount := 0 }

theorem store_of_latch {a b : State} (h : latchMask a = latchMask b) : storeMask a = storeMask b :=
  congrArg (fun t => { t with pst := ProfileStore.reset }) h

theorem slices_of_store {a b : State} (h : storeMask a = storeMask b) : slicesMask a = slicesMask b :=
  congrArg (fun t => { t with slb := SliceBuilder.reset, adv := AdviceUnit.reset 0 }) h

theorem slices_of_latch {a b : State} (h : latchMask a = latchMask b) : slicesMask a = slicesMask b :=
  slices_of_store (store_of_latch h)

theorem heads_of_slices {a b : State} (h : slicesMask a = slicesMask b) : headsMask a = headsMask b :=
  congrArg (fun t => { t with head1 := HeadReceiver.reset, head2 := HeadReceiver.reset, freeCount := 0 }) h

theorem position_of_slices {a b : State} (h : slicesMask a = slicesMask b) : positionMask a = positionMask b :=
  congrArg (fun t => { t with chu := ChainageUnit.reset ⟨false, false⟩ ⟨false, false⟩, mku := MarkerUnit.reset, freeCount := 0 }) h

/-! ## Events and advice -/

theorem raiseAll_latch (e : Event) (s : State) : latchMask (raiseAll e s) = latchMask s := rfl

@[simp] theorem raiseAll_slices (e : Event) (s : State) : slicesMask (raiseAll e s) = slicesMask s := rfl

@[simp] theorem evaluateAdvice_slices (s : State) : slicesMask (evaluateAdvice s) = slicesMask s := by
  unfold evaluateAdvice; split <;> rfl

@[simp] theorem reportClass_slices (c : SectorState) (b : Bool) (s : State) : slicesMask (reportClass c b s) = slicesMask s := by
  unfold reportClass; split
  · rw [evaluateAdvice_slices]; rfl
  · rfl

@[simp] theorem clearStopLatch_slices (p : PortId) (s : State) : slicesMask (clearStopLatch p s) = slicesMask s := by
  unfold clearStopLatch; split
  · rw [evaluateAdvice_slices]; rfl
  · rfl

/-! ## Store Arbiter -/

theorem grantCommit_store (s : State) : storeMask (grantCommit s) = storeMask s := rfl

theorem askCommit_store (s : State) : storeMask (askCommit s) = storeMask s := by
  unfold askCommit; split <;> rfl

theorem retryEvent_store (s : State) : storeMask (retryEvent s) = storeMask s := by
  unfold retryEvent
  split
  · split
    · rfl
    · exact askCommit_store s
  · split <;> rfl

theorem grantNextPort_store (s : State) : storeMask (grantNextPort s) = storeMask s := by
  unfold grantNextPort; split <;> rfl

theorem releaseByPort_store (s : State) : storeMask (releaseByPort s) = storeMask s := by
  unfold releaseByPort; split
  · rfl
  · exact grantNextPort_store s

theorem endCommitHold_store (s : State) : storeMask (endCommitHold s) = storeMask s := grantNextPort_store _

theorem abandonCommit_store (s : State) : storeMask (abandonCommit s) = storeMask s := by
  unfold abandonCommit; dsimp only; split
  · exact endCommitHold_store _
  · rfl

@[simp] theorem askCommit_slices (s : State) : slicesMask (askCommit s) = slicesMask s := slices_of_store (askCommit_store s)
@[simp] theorem retryEvent_slices (s : State) : slicesMask (retryEvent s) = slicesMask s := slices_of_store (retryEvent_store s)

/-! ## Slice Builder -/

@[simp] theorem appendPending_slices (x : PendingSlice) (rest : List OpenSlice) (s : State) :
    slicesMask (appendPending x rest s) = slicesMask s := by
  unfold appendPending
  have h : ∀ t : State, slicesMask (if s.slb.pendingSlices.isEmpty then askCommit (evaluateAdvice t) else evaluateAdvice t) =
      slicesMask t := by intro t; split <;> simp
  exact (h _).trans rfl

@[simp] theorem closeRearmost_slices (k : CloseKind) (s : State) : slicesMask (closeRearmost k s) = slicesMask s := by
  unfold closeRearmost; split
  · rfl
  · simp

@[simp] theorem closeForced_slices (s : State) : slicesMask (closeForced s) = slicesMask s :=
  congrArg (fun t => { t with env := s.env }) (closeRearmost_slices .forced { s with env := tablesAt s 0 })

@[simp] theorem closeMany_slices (k : CloseKind) (n : Nat) (s : State) : slicesMask (closeMany k n s) = slicesMask s := by
  induction n generalizing s with
  | zero => rfl
  | succ n ih => simp [closeMany, ih]

@[simp] theorem flush_slices (s : State) : slicesMask (flush s) = slicesMask s := closeMany_slices _ _ s

@[simp] theorem closeTestFrom_slices (n : Nat) (s : State) : slicesMask (closeTestFrom n s) = slicesMask s := by
  induction n generalizing s with
  | zero => rfl
  | succ n ih =>
    unfold closeTestFrom
    split
    · rfl
    · split
      · simp [ih]
      · rfl

@[simp] theorem noteTest_slices (s : State) : slicesMask (noteTest s) = slicesMask s := rfl

@[simp] theorem closeTest_slices (s : State) : slicesMask (closeTest s) = slicesMask s := by
  unfold closeTest; split
  · rfl
  · simp

@[simp] theorem setRun_slices (r : RunState) (s : State) : slicesMask (setRun r s) = slicesMask s := by
  unfold setRun; split
  · rfl
  · rw [evaluateAdvice_slices, raiseAll_slices]; rfl

@[simp] theorem endRun_slices (s : State) : slicesMask (endRun s) = slicesMask s := setRun_slices _ s

@[simp] theorem segmentBreak_slices (s : State) : slicesMask (segmentBreak s) = slicesMask s := by
  unfold segmentBreak
  split
  · dsimp only
    split
    · rw [endRun_slices, raiseAll_slices]; exact flush_slices s
    · rw [raiseAll_slices]; exact flush_slices s
  · rfl

@[simp] theorem reportDirection_slices (d : Direction) (s : State) : slicesMask (reportDirection d s) = slicesMask s := by
  unfold reportDirection
  split
  · split
    · rfl
    · split <;> simp
  · rfl

@[simp] theorem lowerOpenSlices_slices (q : Quality) (s : State) : slicesMask (lowerOpenSlices q s) = slicesMask s := rfl
@[simp] theorem markCorrected_slices (s : State) : slicesMask (markCorrected s) = slicesMask s := rfl
@[simp] theorem markOpenSlices_slices (s : State) : slicesMask (markOpenSlices s) = slicesMask s := rfl
@[simp] theorem overrunDiscard_slices (s : State) : slicesMask (overrunDiscard s) = slicesMask s := by
  unfold overrunDiscard; split <;> rfl
@[simp] theorem openSlice_slices (d : Direction) (i : Nat) (s : State) : slicesMask (openSlice d i s) = slicesMask s := rfl
@[simp] theorem setStale_slices (s : State) (h : HeadId) (b : Bool) : slicesMask (setStale s h b) = slicesMask s := by
  cases h <;> rfl

@[simp] theorem lockedHeadChange_slices (s : State) : slicesMask (lockedHeadChange s) = slicesMask s := by
  unfold lockedHeadChange
  dsimp only
  split
  · split <;> simp
  · simp

/-! ## What a delivery reaches -/

@[simp] theorem setHead_headsMask (s : State) (h : HeadId) (r : HeadReceiver) : headsMask (s.setHead h r) = headsMask s := by
  cases h <;> rfl
@[simp] theorem useFree_headsMask (s : State) : headsMask (useFree s) = headsMask s := rfl
@[simp] theorem countEvents_headsMask (h : HeadId) (c : CounterClass) (n : Nat) (s : State) :
    headsMask (countEvents h c n s) = headsMask s := by
  unfold countEvents; split <;> simp

@[simp] theorem settleWrites_headsMask (s : State) : headsMask (settleWrites s) = headsMask s := by
  unfold settleWrites; split <;> rfl

@[simp] theorem binRevolution_headsMask (v : Delivery) (i : Nat) (s : State) : headsMask (binRevolution v i s) = headsMask s := by
  unfold binRevolution
  rw [heads_of_slices (closeTest_slices _), countEvents_headsMask, settleWrites_headsMask]
  rfl

@[simp] theorem chooseSlice_headsMask (v : Delivery) (d : Direction) (s : State) : headsMask (chooseSlice v d s) = headsMask s := by
  unfold chooseSlice
  dsimp only
  split
  · simp
  split
  · simp
  split
  · exact heads_of_slices (overrunDiscard_slices s)
  split
  · split
    · simp
    · rw [binRevolution_headsMask]
      exact heads_of_slices ((openSlice_slices _ _ _).trans (closeForced_slices s))
  · rw [binRevolution_headsMask]
    rfl

theorem discardStale_headsMask (h : HeadId) (s : State) : headsMask (discardStale h s) = headsMask s := by
  unfold discardStale
  rw [heads_of_slices (setStale_slices _ _ _), countEvents_headsMask]

@[simp] theorem deliver_headsMask (v : Delivery) (s : State) : headsMask (deliver v s) = headsMask s := by
  unfold deliver
  split
  · split
    · exact discardStale_headsMask _ _
    · split
      · rfl
      · split
        · rfl
        · simp
  · rfl

/-- With no slice open a close test does nothing. -/
theorem closeTest_of_no_open {s : State} (h : s.slb.openSlices = []) : closeTest s = s := by simp [closeTest, h]

/-- A close test that finds a slice open keeps its moment. -/
theorem closeTest_of_open {s : State} (h : s.slb.openSlices ≠ []) :
    closeTest s = noteTest (closeTestFrom s.slb.openSlices.length s) := by simp [closeTest, h]

/-- A delivery with no close test of its moment before it is judged as it stands. -/
theorem settleTest_of_not_tested {r : OpenRevolution} {s : State} (h : testedAtDelivery r s = false) : settleTest r s = s := by
  simp [settleTest, h]

@[simp] theorem settleTest_headsMask (r : OpenRevolution) (s : State) : headsMask (settleTest r s) = headsMask s := by
  unfold settleTest; split
  · exact heads_of_slices (closeTest_slices s)
  · rfl

@[simp] theorem settleMark_headsMask (h : HeadId) (r : OpenRevolution) (s : State) : headsMask (settleMark h r s) = headsMask s := by
  unfold settleMark; split
  · exact heads_of_slices (setStale_slices _ _ _)
  · rfl

/-! ## Position -/

@[simp] theorem recomputeNext_position (s : State) : positionMask (recomputeNext s) = positionMask s := by
  unfold recomputeNext; split <;> rfl

theorem nextAtQuality_position (q old : Quality) (s : State) : positionMask (nextAtQuality q old s) = positionMask s := by
  unfold nextAtQuality
  split
  · rfl
  · split <;> simp

@[simp] theorem changeQuality_position (q : Quality) (s : State) : positionMask (changeQuality q s) = positionMask s := by
  have told : positionMask (evaluateAdvice (nextAtQuality q s.chu.quality (noteQuality q s))) = positionMask s := by
    rw [position_of_slices (evaluateAdvice_slices _), nextAtQuality_position]
    rfl
  unfold changeQuality
  split
  · rfl
  · dsimp only
    split
    · exact (position_of_slices (segmentBreak_slices _)).trans told
    · exact told

@[simp] theorem degrade_position (s : State) : positionMask (degrade s) = positionMask s := by
  unfold degrade; split <;> simp

@[simp] theorem failEncoder_position (side : Side) (s : State) : positionMask (failEncoder side s) = positionMask s := by
  unfold failEncoder
  dsimp only
  split
  · rw [changeQuality_position]; rfl
  · rw [degrade_position]; split <;> rfl

@[simp] theorem takeTransition_position (side : Side) (phase : Phase) (s : State) :
    positionMask (takeTransition side phase s) = positionMask s := by
  unfold takeTransition
  dsimp only
  split
  · rfl
  · rfl
  · rfl
  · split
    · rw [failEncoder_position]; rfl
    · rfl

@[simp] theorem countMiss_position (d : Direction) (m : Nat) (s : State) : positionMask (countMiss d m s) = positionMask s := by
  unfold countMiss
  dsimp only
  split
  · rw [degrade_position]; rfl
  · rfl

@[simp] theorem missCheckFrom_position (n : Nat) (s : State) : positionMask (missCheckFrom n s) = positionMask s := by
  induction n generalizing s with
  | zero => rfl
  | succ n ih =>
    unfold missCheckFrom
    split
    · split
      · rw [ih, countMiss_position]
      · rfl
    · rfl

@[simp] theorem missCheck_position (s : State) : positionMask (missCheck s) = positionMask s := missCheckFrom_position _ s

@[simp] theorem clampAndMiss_position (s : State) : positionMask (clampAndMiss s) = positionMask s := by
  unfold clampAndMiss
  split
  · simp
  · split
    · rw [changeQuality_position, missCheck_position]; rfl
    · rw [missCheck_position, changeQuality_position]; rfl

@[simp] theorem windowFusion_position (s : State) : positionMask (windowFusion s) = positionMask s := by
  unfold windowFusion
  split
  · rw [clampAndMiss_position]; rfl
  · rw [missCheck_position]; rfl

@[simp] theorem setDirection_position (e : Direction) (s : State) : positionMask (setDirection e s) = positionMask s := by
  unfold setDirection
  rw [position_of_slices (reportDirection_slices _ _), recomputeNext_position]
  rfl

@[simp] theorem windowDirection_position (d : Int) (s : State) : positionMask (windowDirection d s) = positionMask s := by
  unfold windowDirection
  split
  · dsimp only; split
    · simp
    · rfl
  · split
    · rfl
    split
    · rfl
    split
    · simp
    · rfl

@[simp] theorem windowTravel_position (d : Int) (s : State) : positionMask (windowTravel d s) = positionMask s := by
  unfold windowTravel
  dsimp only
  split
  · rfl
  · split
    · unfold slipCheck
      dsimp only
      split
      · rw [degrade_position]; rfl
      · rfl
    · rfl

@[simp] theorem windowHold_position (s : State) : positionMask (windowHold s) = positionMask s := by
  unfold windowHold; split <;> simp

theorem takeWindowEnd_position (s : State) : positionMask (takeWindowEnd s) = positionMask s := by
  unfold takeWindowEnd
  dsimp only
  rw [position_of_slices (closeTest_slices _)]
  exact (windowHold_position _).trans ((windowTravel_position _ _).trans ((windowDirection_position _ _).trans
    (windowFusion_position s)))

theorem setChainageTo_position (mm : Nat) (s : State) : positionMask (setChainageTo mm s) = positionMask s := by
  unfold setChainageTo
  rw [position_of_slices (segmentBreak_slices _), recomputeNext_position, changeQuality_position]
  rfl

theorem takeEdge_position (s : State) : positionMask (takeEdge s) = positionMask s := by
  have ring : ∀ (m : Nat) (e : MarkerEntry) (jump : Bool) (t : State), positionMask (applyRing m e jump t) = positionMask t := by
    intro m e jump t
    unfold applyRing
    have h : positionMask (afterMatch m (takeSnap e.surveyed t)) = positionMask t :=
      show positionMask (takeSnap e.surveyed t) = positionMask t by unfold takeSnap; rw [changeQuality_position]; rfl
    dsimp only
    split
    · exact (position_of_slices (segmentBreak_slices _)).trans h
    · exact (position_of_slices (closeTest_slices _)).trans h
  have log : ∀ (r : Capture) (t : State), positionMask (logCapture r t) = positionMask t := fun _ _ => rfl
  have cap : ∀ t : State, positionMask (takeCapture t) = positionMask t := by
    intro t
    unfold takeCapture
    dsimp only
    split
    · rfl
    · rfl
    · split
      · rfl
      · split
        · rfl
        · split
          · rfl
          · rw [log, ring]
  unfold takeEdge
  split
  · rfl
  · rw [cap]; rfl

/-! ## Heads -/

@[simp] theorem enterState_headsMask (h : HeadId) (dest : HeadState) (s : State) : headsMask (enterState h dest s) = headsMask s := by
  have a : headsMask (if (s.head h).state = dest then s.setHead h { withTimers dest (s.head h) with state := dest }
      else raiseAll .headState (s.setHead h { withTimers dest (s.head h) with state := dest })) = headsMask s := by
    split
    · simp
    · exact (heads_of_slices (raiseAll_slices _ _)).trans (setHead_headsMask _ _ _)
  unfold enterState
  dsimp only
  split
  · exact a
  · exact (heads_of_slices (lockedHeadChange_slices _)).trans a

@[simp] theorem dropRevolution_headsMask (h : HeadId) (s : State) : headsMask (dropRevolution h s) = headsMask s :=
  setHead_headsMask _ _ _

@[simp] theorem enterPowering_headsMask (h : HeadId) (s : State) : headsMask (enterPowering h s) = headsMask s := by
  simp [enterPowering]

@[simp] theorem enterOff_headsMask (h : HeadId) (s : State) : headsMask (enterOff h s) = headsMask s := by simp [enterOff]

@[simp] theorem enterFaulted_headsMask (h : HeadId) (c : FaultCause) (s : State) : headsMask (enterFaulted h c s) = headsMask s := by
  simp [enterFaulted]

@[simp] theorem sendTrain_headsMask (h : HeadId) (s : State) : headsMask (sendTrain h s) = headsMask s := setHead_headsMask _ _ _

@[simp] theorem enterTraining_headsMask (h : HeadId) (s : State) : headsMask (enterTraining h s) = headsMask s := by
  simp [enterTraining]

@[simp] theorem enterAcquiring_headsMask (h : HeadId) (s : State) : headsMask (enterAcquiring h s) = headsMask s := by
  simp [enterAcquiring]

@[simp] theorem trainingSuccess_headsMask (h : HeadId) (s : State) : headsMask (trainingSuccess h s) = headsMask s := by
  simp [trainingSuccess]

@[simp] theorem trainingFailure_headsMask (h : HeadId) (s : State) : headsMask (trainingFailure h s) = headsMask s := by
  unfold trainingFailure
  dsimp only
  split
  · rw [sendTrain_headsMask, heads_of_slices (raiseAll_slices _ _)]; simp
  · split <;> simp

@[simp] theorem rejectRevolution_headsMask (h : HeadId) (s : State) : headsMask (rejectRevolution h s) = headsMask s := by
  unfold rejectRevolution
  dsimp only
  split
  · simp
  · split <;> simp
  · simp

@[simp] theorem judgeClosed_headsMask (h : HeadId) (r : OpenRevolution) (s : State) : headsMask (judgeClosed h r s) = headsMask s := by
  have remember : ∀ t, headsMask (rememberRevolution h r t) = headsMask t := fun t => setHead_headsMask _ _ _
  have period : ∀ p t, headsMask (takePeriod h p t) = headsMask t := fun p t => setHead_headsMask _ _ _
  have accept : ∀ t, headsMask (acceptLocked h r t) = headsMask t := by intro t; simp [acceptLocked]
  have gain : ∀ t, headsMask (lockGain h t) = headsMask t := by intro t; unfold lockGain; split <;> simp
  unfold judgeClosed
  dsimp only
  split
  · simp
  · split <;> simp [remember, accept]
  · split <;> simp [remember, accept]
  · split
    · rw [accept]
      split
      · rw [heads_of_slices (evaluateAdvice_slices _), period, remember]
      · rw [period, remember]
    · rw [gain, period, remember]

end Sys2Proof.Machine
end

