-- ==== Sys2Proof/Laws/Radii.lean ====
section
/-! SUPPORT. What the Envelope Tables can be at a place of a delivery (R113): the present ones with some of the newest writes of the
moment taken back, fewer at a later place. -/

namespace Sys2Proof.Machine

/-- Only the radii differ, each taken-back write putting its old radius back. -/
theorem beforeWrites_eq (ws : List RadiusWrite) (e : EnvelopeTables) :
    beforeWrites ws e = { e with radii := ws.foldl (fun r w => r.setIfInBounds w.index w.before) e.radii } := by
  induction ws generalizing e with
  | nil => rfl
  | cons w ws ih => simp [beforeWrites, ih]

/-- The writes to come are newest ones. -/
theorem writesToCome_take (place draw n : Nat) (ws : List RadiusWrite) :
    writesToCome place draw n ws = ws.take (writesToCome place draw n ws).length := by
  induction ws generalizing n with
  | nil => rfl
  | cons w ws ih =>
    unfold writesToCome
    split
    · simpa using ih (n + 1)
    · simp

/-- A write taken by a place is taken by the next one. -/
theorem writesToCome_shrinks (place draw n : Nat) (ws : List RadiusWrite) :
    (writesToCome (place + 1) draw n ws).length ≤ (writesToCome place draw n ws).length := by
  induction ws generalizing n with
  | nil => exact Nat.le_refl _
  | cons w ws ih =>
    unfold writesToCome
    by_cases h : place + 1 < Config.writePlace draw n
    · simpa [h, Nat.lt_of_succ_lt h] using ih (n + 1)
    · simp [h]

/-- With no write of the moment the tables are as they stand at every place. -/
theorem tablesAt_no_writes (s : State) (place : Nat) (h : s.slb.radiusWrites = []) : tablesAt s place = s.env := by
  rw [tablesAt, h]; rfl

/-- The writes are settled and nothing but the count of free values moves. -/
theorem settleWrites_eq (s : State) : settleWrites s =
    { s with slb := { s.slb with radiusWrites := [] },
             freeCount := if s.slb.radiusWrites = [] then s.freeCount else s.freeCount + 1 } := by
  rcases s with ⟨⟩
  rename_i slb _ _ _ _ _ _ _ _ _
  rcases slb with ⟨_, _, _, _, _, _, _, _, _, _, _, _, _, _, _, ws⟩
  cases ws <;> rfl

end Sys2Proof.Machine
end

