-- ==== Sys2Proof/Laws/Requests.lean ====
section
/-! SUPPORT. What a request does, case by case of its slot: every request of the part goes through one of the operations below, so a
statement about a request cites these and looks only at the request's own act. -/

namespace Sys2Proof.Machine

/-! ## Slots -/

theorem slotIdle_iff (s : State) (p : PortId) : slotIdle s p = true ↔ (s.port p).slot = .idle := by
  unfold slotIdle; cases (s.port p).slot <;> simp

theorem slotIdle_eq_false (s : State) (p : PortId) : slotIdle s p = false ↔ (s.port p).slot ≠ .idle := by
  rw [← Bool.not_eq_true, slotIdle_iff]

/-- A frame that is valid for the link does what `afterFrame` says. -/
theorem validFrame_beginTransaction (p : PortId) (s : State) : validFrame p (beginTransaction p s) = afterFrame p s := by
  cases p <;> rfl

@[simp] theorem putAnswer_withAnswer (p : PortId) (echo : Byte) (r : Reply) (s : State) :
    putAnswer p echo r s = withAnswer p r.status echo r.payload s := rfl

@[simp] theorem withAnswer_slot (p : PortId) (st : Status) (echo : Byte) (payload : List Byte) (s : State) :
    ((withAnswer p st echo payload s).port p).slot = .ready { status := st, echo := echo, payload := payload } := by
  cases p <;> rfl

@[simp] theorem afterFrame_slot (p q : PortId) (s : State) : ((afterFrame p s).port q).slot = (s.port q).slot := by
  cases p <;> cases q <;> rfl

@[simp] theorem afterFrame_latch (p q : PortId) (s : State) : ((afterFrame p s).port q).latch = (s.port q).latch := by
  cases p <;> cases q <;> rfl

@[simp] theorem afterFrame_table (p q : PortId) (s : State) : ((afterFrame p s).port q).table = (s.port q).table := by
  cases p <;> cases q <;> rfl

@[simp] theorem afterFrame_index (p q : PortId) (s : State) : ((afterFrame p s).port q).index = (s.port q).index := by
  cases p <;> cases q <;> rfl

@[simp] theorem afterFrame_locks (p : PortId) (s : State) : (afterFrame p s).locks = s.locks := by cases p <;> rfl
@[simp] theorem afterFrame_slb (p : PortId) (s : State) : (afterFrame p s).slb = s.slb := by cases p <;> rfl
@[simp] theorem afterFrame_pst (p : PortId) (s : State) : (afterFrame p s).pst = s.pst := by cases p <;> rfl
@[simp] theorem afterFrame_adv (p : PortId) (s : State) : (afterFrame p s).adv = s.adv := by cases p <;> rfl
@[simp] theorem afterFrame_chu (p : PortId) (s : State) : (afterFrame p s).chu = s.chu := by cases p <;> rfl
@[simp] theorem afterFrame_mku (p : PortId) (s : State) : (afterFrame p s).mku = s.mku := by cases p <;> rfl
@[simp] theorem afterFrame_env (p : PortId) (s : State) : (afterFrame p s).env = s.env := by cases p <;> rfl
@[simp] theorem afterFrame_scv (p : PortId) (s : State) : (afterFrame p s).scv = s.scv := by cases p <;> rfl
@[simp] theorem afterFrame_setup (p : PortId) (s : State) : (afterFrame p s).setup = s.setup := by cases p <;> rfl
@[simp] theorem afterFrame_signals (p : PortId) (s : State) : (afterFrame p s).signals = s.signals := by cases p <;> rfl
@[simp] theorem afterFrame_pending (p : PortId) (s : State) : (afterFrame p s).pending = s.pending := by cases p <;> rfl
@[simp] theorem afterFrame_timebase (p : PortId) (s : State) : (afterFrame p s).timebase = s.timebase := by cases p <;> rfl
@[simp] theorem afterFrame_freeCount (p : PortId) (s : State) : (afterFrame p s).freeCount = s.freeCount := by cases p <;> rfl
@[simp] theorem afterFrame_head (p : PortId) (h : HeadId) (s : State) : (afterFrame p s).head h = s.head h := by
  cases p <;> cases h <;> rfl

@[simp] theorem slotIdle_afterFrame (p q : PortId) (s : State) : slotIdle (afterFrame p s) q = slotIdle s q := by
  unfold slotIdle; rw [afterFrame_slot]

/-! ## The request operations -/

/-- In an IDLE slot a request acts on the state after its frame. -/
theorem request_idle {p : PortId} {s : State} (h : (s.port p).slot = .idle) (act : State → State) :
    request p act s = act (afterFrame p s) := by
  unfold request; rw [(slotIdle_iff s p).2 h, validFrame_beginTransaction]; rfl

/-- In any other slot it only restarts the link. -/
theorem request_busy {p : PortId} {s : State} (h : (s.port p).slot ≠ .idle) (act : State → State) :
    request p act s = afterFrame p s := by
  unfold request; rw [(slotIdle_eq_false s p).2 h, validFrame_beginTransaction]; rfl

theorem plainRequest_idle {p : PortId} {s : State} (h : (s.port p).slot = .idle) (echo : Byte) (act : State → State × Reply) :
    plainRequest p echo act s =
      withAnswer p (act (afterFrame p s)).2.status echo (act (afterFrame p s)).2.payload (act (afterFrame p s)).1 :=
  request_idle h _

theorem plainRequest_busy {p : PortId} {s : State} (h : (s.port p).slot ≠ .idle) (echo : Byte) (act : State → State × Reply) :
    plainRequest p echo act s = afterFrame p s :=
  request_busy h _

/-- A request whose act changes nothing leaves only its answer. -/
theorem plainRequest_unchanged {p : PortId} {s : State} {r : Reply} (h : (s.port p).slot = .idle) (echo : Byte)
    {act : State → State × Reply} (ha : act (afterFrame p s) = (afterFrame p s, r)) :
    plainRequest p echo act s = onlyAnswer p r.status echo r.payload s := by
  rw [plainRequest_idle h, ha]; rfl

theorem storeRequest_busy {p : PortId} {s : State} (h : (s.port p).slot ≠ .idle) (echo : Byte) (refusal : State → Option Status)
    (q : StoreRequest) : storeRequest p echo refusal q s = afterFrame p s :=
  request_busy h _

theorem storeRequest_refused {p : PortId} {s : State} {st : Status} (h : (s.port p).slot = .idle) (echo : Byte)
    {refusal : State → Option Status} (q : StoreRequest) (hr : refusal (afterFrame p s) = some st) :
    storeRequest p echo refusal q s = onlyAnswer p st echo [] s := by
  unfold storeRequest; rw [request_idle h]; simp only [hr]; rfl

theorem storeRequest_asks {p : PortId} {s : State} (h : (s.port p).slot = .idle) (echo : Byte)
    {refusal : State → Option Status} (q : StoreRequest) (hr : refusal (afterFrame p s) = none) :
    storeRequest p echo refusal q s = askPort p q echo (afterFrame p s) := by
  unfold storeRequest; rw [request_idle h]; simp only [hr]

theorem askPort_free {p : PortId} {s : State} (h : storeFree s = true) (q : StoreRequest) (echo : Byte) :
    askPort p q echo s = grantAndServe p q echo s := by simp [askPort, h]

theorem askPort_held {p : PortId} {s : State} (h : storeFree s = false) (q : StoreRequest) (echo : Byte) :
    askPort p q echo s = setSlot p (.working q echo) s := by simp [askPort, h]

theorem needsSetup_holder {p : PortId} {s : State} (h : s.locks.setup = some p) (act : State → State × Reply) :
    needsSetup p act s = act s := by simp [needsSetup, holds, LockTable.holder, h]

theorem needsSetup_other {p : PortId} {s : State} (h : s.locks.setup ≠ some p) (act : State → State × Reply) :
    needsSetup p act s = (s, bare .lockRequired) := by simp [needsSetup, holds, LockTable.holder, h]

/-! ## Head numbers -/

theorem headOf_number (b : Byte) (h : HeadId) (hb : b.toNat = headNumber h) : headOf b = some h := by
  unfold headOf; rw [hb]; cases h <;> rfl

theorem headOf_other {b : Byte} (h1 : b.toNat ≠ 1) (h2 : b.toNat ≠ 2) : headOf b = none := by
  unfold headOf; split <;> simp_all

theorem headRequest_number {b : Byte} {h : HeadId} (hb : b.toNat = headNumber h) (act : HeadId → State → State × Reply)
    (s : State) : headRequest b act s = act h s := by simp [headRequest, headOf_number b h hb]

theorem headRequest_other {b : Byte} (h1 : b.toNat ≠ 1) (h2 : b.toNat ≠ 2) (act : HeadId → State → State × Reply)
    (s : State) : headRequest b act s = (s, bare .badValue) := by simp [headRequest, headOf_other h1 h2]

end Sys2Proof.Machine
end

