-- ==== Sys2Proof/Tests/Slice0.lean ====
section
/-! SUPPORT. Tests: what WellFormed refuses, frames written out byte by byte, worked examples of the spec (each names its section) as
single steps, and for every statement with hypotheses a witness that meets them. -/

open Sys2Proof Sys2Proof.Machine

-- One test at a time: each waits for the kernel, and every waiting one would hold a thread.
set_option Elab.async false

namespace Sys2Proof.Tests

/-- The state after a command. -/
def after (c : Instr) (s : State) : State :=
  match exec c s with
  | .next t => t
  | _ => s

/-! ## WellFormed refuses -/

theorem test_short_table_entry_refused :
    (Instr.tableWrite .p0 0 [1]).wellFormed = false ∧ (Instr.tableWriteEncK .p0 0 (List.replicate 15 0)).wellFormed = false ∧
    (Instr.tableWriteHeadEnable .p0 0 []).wellFormed = false ∧ (Instr.tableWriteLinkTimeout .p0 0 [0]).wellFormed = false ∧
    (Instr.tableWriteMarkers .p0 0 [0]).wellFormed = false ∧ (Instr.tableWriteZones .p0 0 []).wellFormed = false ∧
    (Instr.tableWriteProfiles .p0 0 [0]).wellFormed = false ∧ (Instr.tableWriteAdviceInput .p0 0 [0]).wellFormed = false ∧
    (Instr.tableWrite .p0 0 [1, 2]).wellFormed = true := by
  decide +kernel

/-- A frame that passes its check is no FRAME_FAILS_CHECK, and a frame that is taken no FRAMING_REFUSAL. -/
theorem test_sound_frames_refused :
    (Instr.frameFailsCheck .h1 (withCheck [0x02, 0x03])).wellFormed = false ∧
    (Instr.frameFailsCheck .h1 [0x02, 0x03, 0, 0]).wellFormed = true ∧
    (Instr.framingRefusal .p0 (withCheck [0x01, 0])).wellFormed = false ∧
    (Instr.framingRefusal .p0 [0x01, 0, 0, 0]).wellFormed = true := by
  decide +kernel

/-! ## Frames, byte by byte (chapter 11)

The check value of the nine bytes "123456789" under the CRC of R1 is 0x29B1, the published check of CRC-16 with polynomial 0x1021
and initial value 0xFFFF. -/

theorem test_check_value : checkValue [0x31, 0x32, 0x33, 0x34, 0x35, 0x36, 0x37, 0x38, 0x39] = 0x29B1 := by decide +kernel

theorem test_send_set_chainage :
    sendOf .p1 (withCheck [0x13, 4, 0x00, 0x12, 0xD6, 0x87]) = .setChainage .p1 1234567 := by decide +kernel

theorem test_send_set_cursor :
    sendOf .p2 (withCheck [0x23, 5, 2, 0x00, 0x00, 0x01, 0x02]) = .setCursor .p2 2 258 := by decide +kernel

theorem test_send_table_point : sendOf .p0 (withCheck [0x0A, 3, 1, 0x01, 0xFF]) = .tablePoint .p0 1 511 := by decide +kernel

theorem test_send_start_run : sendOf .p0 (withCheck [0x10, 0]) = .startRun .p0 := by decide +kernel

theorem test_send_take_lock : sendOf .p0 (withCheck [0x08, 1, 2]) = .takeLock .p0 2 := by decide +kernel

theorem test_send_head_counter : sendOf .p0 (withCheck [0x33, 2, 1, 5]) = .selectHeadCounter .p0 1 5 := by decide +kernel

theorem test_rev_start_frame : headCommandOf .h2 (withCheck [0x10, 0x01, 0xF4, 2]) = .revStart .h2 500 2 := by decide +kernel

theorem test_rev_end_frame : headCommandOf .h1 (withCheck [0x12, 0x01, 0xF4, 0x04, 0x00]) = .revEnd .h1 500 1024 := by
  decide +kernel

theorem test_train_ack_frame : headCommandOf .h1 (withCheck [0x02, 3]) = .trainAck .h1 3 := by decide +kernel

/-- R169: too short, bad check, a length that disagrees, an unknown code, and a payload the command does not take. -/
theorem test_judging_order :
    judgeFrame [0x10, 0, 1] = .frameError ∧ judgeFrame [0x10, 0, 1, 2] = .frameError ∧
    judgeFrame (withCheck [0x10, 3, 0]) = .badLengthFrame ∧ judgeFrame (withCheck [0x07, 0]) = .unknownCommand ∧
    judgeFrame (withCheck [0x10, 1, 0]) = .badLengthCommand ∧ judgeFrame (withCheck [0x10, 0]) = .taken := by
  decide +kernel

/-! ## Worked examples of the spec -/

/-- A head in a state at a rate. -/
def headIn (st : HeadState) (rate : Rate) : HeadReceiver := { inState st HeadReceiver.reset with rate := rate }

/-- Section 1.4.1: head 2 in TRAINING at FULL with one failure behind it and TRAIN_FAILURES selected. -/
def training (rate : Rate) (failures counter : Nat) : State :=
  State.reset.setHead .h2 { headIn .training rate with
    trainFailures := failures, selection := .trainFailures, counter := counter }

theorem test_first_bad_frame_retries :
    ((after (.frameFailsCheck .h2 [0]) (training .full 0 0)).head2.trainFailures,
      (after (.frameFailsCheck .h2 [0]) (training .full 0 0)).head2.rate) = (1, .full) := by
  decide +kernel

theorem test_second_bad_frame_steps_down :
    let r := (after (.frameFailsCheck .h2 [0]) (training .full 1 1)).head2
    (r.rate, r.trainFailures, r.counter, r.trainSent) = (.half, 0, 2, some .half) := by
  decide +kernel

theorem test_wrong_code_steps_down_to_quarter :
    let r := (after (.trainAck .h2 1) (training .half 1 3)).head2
    (r.rate, r.trainFailures, r.counter) = (.quarter, 0, 4) := by
  decide +kernel

theorem test_quarter_code_reaches_acquiring :
    (after (.trainAck .h2 3) (training .quarter 0 4)).head2.state = .acquiring := by
  decide +kernel

/-- Section 1.4.1, last sentence: the seventh failure at QUARTER. -/
theorem test_seventh_failure_faults :
    let r := (after (.attemptTimerExpiry .h2) (training .quarter 6 0)).head2
    (r.state, r.faultCause, r.trainFailures) = (.faulted, .train, 0) := by
  decide +kernel

/-- Section 1.5.1: an open, complete revolution at HALF. -/
def complete (number : BitVec 16) (start : Time) : OpenRevolution :=
  { number := number, rateCode := 2, nextBlock := 16, broken := false, startTime := start, headChainage := 0, cant := 0,
    cantInvalid := false, cantClamped := false, samples := [] }

/-- Section 1.5.1: head 1 with a history, the previous revolution and an open one. -/
def acquiring (st : HeadState) (periods : List Nat) (avg : Option Nat) (run : Nat) (previous : AcceptedRevolution)
    (r : OpenRevolution) : State :=
  State.reset.setHead .h1 { headIn st .half with
    periods := periods, averagedPeriod := avg, rejectionRun := run, previous := some previous, openRev := some r }

theorem test_revolution_504_locks :
    let r := (after (.revEnd .h1 504 1024)
      (acquiring .acquiring [10000, 10050, 9950] none 0 ⟨503, 33000⟩ (complete 504 43010))).head1
    (r.state, r.averagedPeriod, r.periods) = (.locked, some 10002, [10000, 10050, 9950, 10010]) := by
  decide +kernel

theorem test_revolution_505_averages :
    let r := (after (.revEnd .h1 505 1024)
      (acquiring .locked [10000, 10050, 9950, 10010] (some 10002) 0 ⟨504, 43010⟩ (complete 505 53000))).head1
    (r.averagedPeriod, r.periods) = (some 10000, [10050, 9950, 10010, 9990]) := by
  decide +kernel

theorem test_revolution_506_is_broken :
    let r := (after (.revEnd .h1 506 1024) (acquiring .locked [10050, 9950, 10010, 9990] (some 10000) 0 ⟨505, 53000⟩
      { complete 506 63000 with broken := true })).head1
    (r.state, r.rejectionRun, r.averagedPeriod) = (.locked, 1, some 10000) := by
  decide +kernel

theorem test_revolution_507_is_a_gap :
    let r := (after (.revEnd .h1 507 1024)
      (acquiring .locked [10050, 9950, 10010, 9990] (some 10000) 1 ⟨505, 53000⟩ (complete 507 73020))).head1
    (r.rejectionRun, r.periods, r.averagedPeriod) = (0, [], some 10000) := by
  decide +kernel

/-- Section 2.3.1, conversions 2 and 6. -/
def supplyAt (st : SupplyState) (count : Nat) : State :=
  let s := State.reset.setHead .h1 { headIn .locked .full with averagedPeriod := some 10000 }
  { s with
    scv := { s.scv with supply1 := { channel := { window := [], filtered := none }, state := st, count := count } },
    setup := { s.setup with avgSupply1 := 1 } }

theorem test_one_low_supply_code_is_counted :
    let m := (after (.conversion (.supply .h1) 2590) (supplyAt .inWindow 0)).scv.supply1
    (m.state, m.count) = (.inWindow, 1) := by
  decide +kernel

theorem test_third_low_supply_code_faults :
    let t := after (.conversion (.supply .h1) 2560) (supplyAt .inWindow 2)
    (t.scv.supply1.state, t.head1.state, t.head1.faultCause, outstanding .supplyRange t.port2) =
      (.outOfWindow, .faulted, .supply, true) := by
  decide +kernel

/-- Section 2.4.1, second case, conversion 4. -/
theorem test_line_candidate_moves_on :
    let s := State.reset
    let line : LineMonitor :=
      { channel := { window := [1500, 4095, 4095, 4095], filtered := some 3446 }, cls := .normal, candidate := some .opened,
        count := 1 }
    let m := (after (.conversion (.line .h1) 4095) { s with scv := { s.scv with line1 := line } }).scv.line1
    (m.cls, m.candidate, m.count) = (.normal, some .shortSupply, 1) := by
  decide +kernel

/-- Section 2.4.1, first case, conversion 6. -/
theorem test_third_short_code_is_the_class :
    let s := State.reset
    let line : LineMonitor :=
      { channel := { window := [1500, 0, 0, 0, 0, 0], filtered := some 0 }, cls := .normal, candidate := some .shortGnd,
        count := 2 }
    let t := after (.conversion (.line .h1) 0) { s with scv := { s.scv with line1 := line } }
    (t.scv.line1.cls, t.scv.line1.candidate, outstanding .lineFault t.port0) = (.shortGnd, none, true) := by
  decide +kernel

/-- Table 2-5. -/
theorem test_cant_conversion :
    (cantResult 2048 256 2398, cantResult 2048 256 1047, cantResult 2048 300 2300, cantResult 2048 128 2049,
      cantResult 2048 128 2047) = (350, -1001, 295, 1, -1) := by
  decide +kernel

theorem test_cant_is_clamped :
    let s := State.reset
    let m := (after (.conversion .cant 3200) { s with setup := { s.setup with avgCant := 1 } }).scv.cant
    (m.value, m.status, m.clamped) = (1000, .valid, true) := by
  decide +kernel

/-- Section 3.10.1: one window of 25 and 26 counts. -/
def rolling (o : Orientation) (remainder : Int) : State :=
  let s := State.reset
  { s with
    setup := { s.setup with encK := 9600, orientation := o },
    chu := { s.chu with chainage := 5000000, remainder := remainder, left := { s.chu.left with delta := 25 },
                        right := { s.chu.right with delta := 26 } } }

theorem test_fusion_carries_the_remainder :
    let t := after .windowEnd (rolling .forward 14400)
    (t.chu.chainage, t.chu.remainder) = (5002657, 0) := by
  decide +kernel

theorem test_reversed_fusion_truncates_toward_zero :
    let t := after .windowEnd (rolling .reversed 0)
    (t.chu.chainage, t.chu.remainder) = (4997344, -4800) := by
  decide +kernel

/-- Section 3.10.2. -/
theorem test_slip_is_found : slipFound 20 5000 5150 = true ∧ slipFound 20 4990 5010 = false := by decide +kernel

/-- Section 3.10.3, window 15: the reversal accumulator stands at 48,000 µm. -/
theorem test_reversal_at_fifty_millimetres :
    let s := State.reset
    let t := after .windowEnd { s with chu := { s.chu with
      chainage := 9000000, direction := some .increasing, reversal := 48000, left := { s.chu.left with delta := -48 },
      right := { s.chu.right with delta := -48 } } }
    (t.chu.direction, t.chu.reversal) = (some .decreasing, 0) := by
  decide +kernel

/-- Table 3-2: the forward cycle. -/
theorem test_quadrature :
    (countOf ⟨false, false⟩ ⟨false, true⟩, countOf ⟨false, true⟩ ⟨true, true⟩, countOf ⟨true, true⟩ ⟨true, false⟩,
      countOf ⟨false, false⟩ ⟨true, false⟩, countOf ⟨false, false⟩ ⟨true, true⟩) = (.plus, .plus, .plus, .minus, .illegal) := by
  decide +kernel

/-- Section 4.9: the markers in use. -/
def surveyedTrack (chainage : Nat) : State :=
  let s := State.reset
  let put := fun (i : Nat) (e : MarkerEntry) (v : Vector MarkerEntry 256) => v.setIfInBounds i e
  { s with
    chu := { s.chu with chainage := chainage, direction := some .increasing, quality := .deadReckoned },
    mku := { s.mku with
      missCount := 1, nextExpected := some 41,
      table := put 40 ⟨true, 1203100, 150, .check⟩ (put 41 ⟨true, 1203580, 200, .ring⟩ (put 42 ⟨true, 1253600, 100, .ring⟩
        (put 43 ⟨true, 1303600, 100, .ring⟩ s.mku.table))) } }

theorem test_small_snap :
    let t := after .markEdge (surveyedTrack 1203547860)
    (t.chu.chainage, t.chu.quality, t.mku.missCount, t.mku.nextExpected, t.mku.log.map (fun c => (c.correction, c.result))) =
      (1203580000, .surveyed, 0, some 42, [(33, .applied)]) := by
  decide +kernel

/-- Table 6-4. -/
theorem test_cant_offsets :
    (cantOffset 8, cantOffset 9, cantOffset (-9), cantOffset 350, cantOffset (-1000)) = (0, 1, -1, 20, -57) := by
  decide +kernel

/-- Sections 6.9.1 and 6.9.2. -/
def exampleSetup (o : Orientation) : SampleSetup :=
  { zero := -36, phase := 40, shadow := 0, intensityFloor := 8, rangeMin := 400, rangeMax := 60000, orientation := o, step := 2,
    cantOffset := 20 }

theorem test_one_sample :
    (judgeSample (exampleSetup .forward) 1000 ⟨10000, 60⟩, judgeSample (exampleSetup .reversed) 1000 ⟨10000, 60⟩) =
      (some (9964, 0), some (9964, 63)) := by
  decide +kernel

/-- Section 6.9.3. -/
theorem test_angle_wraps :
    let c := { exampleSetup .forward with phase := 10, step := 1, cantOffset := -57 }
    let d := { exampleSetup .reversed with phase := 30, step := 1, cantOffset := 57 }
    (sampleSector c 0, sampleSector { c with orientation := .reversed } 0, sampleSector d 2047) = (62, 1, 61) := by
  decide +kernel

/-- Section 6.9.4. -/
theorem test_slice_at_close :
    let rs := [judgeSector 9800 200 3 ⟨some 9964, 12, 0⟩, judgeSector 0 200 3 ⟨some 14020, 20, 0⟩,
      judgeSector 8760 200 3 ⟨some 8700, 40, 1⟩, judgeSector 8760 200 3 ⟨some 9100, 255, 0⟩,
      judgeSector 11500 200 3 ⟨some 11440, 30, 0⟩, judgeSector 500 200 3 ⟨none, 0, 0⟩]
    (rs.map (fun r => (r.state, r.clearance)), sliceClass rs, worstOf rs) =
      ([(.warn, 164), (.unchecked, 0), (.suspect, -60), (.clear, 340), (.warn, -60), (.noData, 0)], .suspect, some (2, -60)) := by
  decide +kernel

/-- Section 7.10: the zone of slices 12,499 and 12,500. -/
theorem test_zone_bounds :
    let e := EnvelopeTables.reset
    let put := fun (i : Nat) (z : ZoneEntry) (v : Vector ZoneEntry 32) => v.setIfInBounds i z
    let s := { State.reset with env := { e with
      default := ⟨1, 300, 2, true⟩,
      zones := put 0 ⟨true, 1200000, 1250000, 2, 200, 3, false⟩ (put 1 ⟨true, 1250000, 1260000, 5, 100, 2, true⟩ e.zones) } }
    (lookupZone s 1249900, lookupZone s 1250000, lookupZone s 1260000) =
      (⟨0, 2, 200, 3, false⟩, ⟨1, 5, 100, 2, true⟩, ⟨32, 1, 300, 2, true⟩) := by
  decide +kernel

/-- Section 8.11: cursors at an eviction and at a retained record. -/
theorem test_eviction_carries_a_following_cursor :
    (carryCursor 5000 ⟨5000, .follow, 0⟩, carryCursor 5000 ⟨5002, .retain, 0⟩) =
      (⟨5001, .follow, 1⟩, ⟨5002, .retain, 0⟩) := by
  decide +kernel

/-- Section 9.7.1: both heads LOCKED. -/
def coverage (period minRevs length : Nat) : State :=
  let r := { headIn .locked .full with averagedPeriod := some period }
  let s := State.reset
  { s with
    head1 := r, head2 := r, chu := { s.chu with quality := .surveyed }, slb := { s.slb with run := .running },
    setup := { s.setup with minRevs := minRevs, sliceLength := length } }

theorem test_coverage_limit :
    let a := adviceOf (coverage 10000 2 100)
    let b := adviceOf (coverage 40000 4 100)
    let c := adviceOf (coverage 40000 8 25)
    ((a.vCov, a.vAdv, a.level), (b.vCov, b.vAdv, b.level), c.vCov) =
      ((some 5000, 2000, .free), (some 625, 625, .limit), some 78) := by
  decide +kernel

/-- Section 9.7.2, step 2. -/
theorem test_run_without_a_locked_head_stops :
    let s := State.reset
    let t := after (.startRun .p0) { s with
      chu := { s.chu with quality := .surveyed }, locks := { s.locks with setup := some .p0 },
      setup := { s.setup with head1 := { s.setup.head1 with enable := true } } }
    (t.slb.run, t.adv.advice.level, t.adv.advice.noHead, outstanding .adviceChange t.port1) = (.running, .stop, true, true) := by
  decide +kernel

/-! ## States that the tests share -/

/-- A port that holds the SETUP lock, a known position and an enabled head. -/
def ready0 : State :=
  let s := State.reset
  { s with
    locks := { LockTable.reset with setup := some .p0 }, chu := { s.chu with quality := .surveyed },
    setup := { s.setup with head1 := { HeadSetup.reset with enable := true } } }

/-- A run along increasing chainage with head 1's revolutions. -/
def runningAt (closed : Option Nat) (overruns : Nat) : State :=
  { ready0 with slb := { ready0.slb with
      run := .running, direction := some .increasing, lastClosed := closed, carriedOverruns := overruns } }

/-- An open slice, closed and pending in a full queue of 64. -/
def pendingOne : PendingSlice := closedSlice .passage ready0 (newSlice ready0 .increasing 6)

/-- A run with n open slices from index 6 on, and m pending ones. -/
def queued (n m : Nat) : State :=
  { runningAt (some 4) 0 with slb := { (runningAt (some 4) 0).slb with
      openSlices := (List.range n).map fun k => newSlice ready0 .increasing (k + 6), pendingSlices := List.replicate m pendingOne } }

/-- A store that holds n records up to number 7047, the cursors as in section 8.11. -/
def storeOf (n : Nat) (mode : CursorMode) : ProfileStore :=
  { ProfileStore.reset with
    records := List.replicate n [0], nextSeq := 7048, cursor0 := ⟨7048 - 2048, mode, 0⟩, cursor1 := ⟨7048, .follow, 0⟩,
    cursor2 := ⟨7047, .follow, 0⟩ }

/-- A commit that holds the store with one slice pending. -/
def committing (n : Nat) (refused kept : Bool) (rest : List PendingSlice) : State :=
  { ready0 with
    slb := { ready0.slb with run := .draining, pendingSlices := pendingOne :: rest },
    pst := { storeOf n .follow with holder := .commitPath, testRefused := refused, retryKept := kept },
    setup := { ready0.setup with storeHigh := 2048 } }

/-- A free store of two records, 7046 and 7047. -/
def twoRecords : State := { ready0 with pst := storeOf 2 .follow }

/-- A request of a port that waits for the store. -/
def waiting (p : PortId) (s : State) : State := setSlot p (.working .readNext 0x20) s

/-- A port with its pointer on an entry and every lock. -/
def pointing (t : Table) (i : Nat) : State :=
  { ready0 with port0 := { ready0.port0 with table := t, index := i }, locks := ⟨some .p0, some .p0, some .p0⟩ }

/-! ## Witnesses

For each statement with hypotheses, states and operands that meet them, one for each of its clauses, at boundary values where a clause
has a range. -/

theorem witness_StepRunsTheFrontCommand :
    { State.reset with pending := [Instr.windowEnd, .commit] }.pending = .windowEnd :: [.commit] := by decide +kernel

theorem witness_IdleStepPassesOneMicrosecond :
    State.reset.pending = [] ∧ 9999 ≤ { State.reset with windowTime := 9999 }.windowTime ∧
    399 ≤ { State.reset with conversionTime := 399 }.conversionTime ∧
    ((State.reset.setHead .h1 { headIn .powering .full with settleTimer := some 1 }).head .h1).settleTimer = some 1 ∧
    ((State.reset.setHead .h2 { headIn .training .full with attemptTimer := some 1 }).head .h2).attemptTimer = some 1 ∧
    ((State.reset.setHead .h1 { headIn .locked .full with watchdog := some 1 }).head .h1).watchdog = some 1 ∧
    linkDue (State.reset.setPort .p1 { MasterPort.reset with link := .up 499999 }) .p1 = true ∧
    linkDue (State.reset.setPort .p1 { MasterPort.reset with link := .up 499998 }) .p1 = false ∧
    { ProfileStore.reset with holder := .commitPath }.holder = .commitPath ∧
    { ProfileStore.reset with holder := .port .p2 }.holder = .port .p2 := by
  decide +kernel

/-- R25: conversions follow one another 400 µs apart, in the fixed order, and LINE2 is followed by CANT. -/
theorem test_conversions_fall_due_in_their_order :
    let channels := fun (s : State) => s.pending.map fun c => match c with
      | .conversion ch _ => some ch
      | _ => none
    let due := fun (n : Nat) (ch : Channel) => match step { State.reset with conversionTime := n, nextChannel := ch } with
      | .next t => (t.conversionTime, channels t)
      | _ => (0, [])
    (due 398 (.line .h2), due 399 (.line .h2)) = ((399, []), (0, [some (.line .h2)])) ∧
    [Channel.cant, .supply .h1, .supply .h2, .line .h1, .line .h2].map (fun ch => (after (.conversion ch 0) State.reset).nextChannel) =
      [.supply .h1, .supply .h2, .line .h1, .line .h2, .cant] := by
  decide +kernel

theorem witness_TrainAckAtTheCurrentRateReachesAcquiring :
    ((training .quarter 0 0).head .h2).state = .training ∧
    (3 : Byte).toNat = rateCode ((training .quarter 0 0).head .h2).rate := by
  decide +kernel

/-- A downspeed at the second failure, a fault at the seventh and a retry, and both commands. -/
theorem witness_FailedAttemptTakesTheFirstCase :
    (State.reset.head .h2).state ≠ .training ∧
    ((training .full 1 0).head .h2).state = .training ∧ ((training .full 1 0).setup.head .h2).downspeed = 2 ∧
    ((training .quarter 6 0).head .h2).state = .training ∧ ((training .half 0 0).head .h2).trainFailures + 1 < 2 ∧
    (2 : Byte).toNat ≠ rateCode ((training .full 1 0).head .h2).rate := by
  decide +kernel

theorem witness_DamagedFrameIsDroppedAndCounted :
    headFramePasses [] = false ∧ headFramePasses (withCheck [0x01, 1]) = false ∧ headFramePasses [0x02, 1, 0, 0] = false := by
  decide +kernel

/-- An open revolution at HALF in a head. -/
def opened (st : HeadState) (run : Nat) : State :=
  State.reset.setHead .h1 { headIn st .half with
    averagedPeriod := some 10000, rejectionRun := run, openRev := some (complete 7 100) }

theorem witness_RevStartOpensARevolution :
    (State.reset.head .h1).state ≠ .acquiring ∧ (State.reset.head .h1).state ≠ .locked ∧
    ((State.reset.setHead .h1 (headIn .acquiring .full)).head .h1).openRev = none ∧
    ((opened .acquiring 0).head .h1).openRev ≠ none ∧
    (((opened .locked 1).head .h1).state = .locked ∧ ((opened .locked 1).head .h1).openRev ≠ none ∧
      ((opened .locked 1).head .h1).rejectionRun ≠ 2) ∧
    (((opened .locked 2).head .h1).state = .locked ∧ ((opened .locked 2).head .h1).openRev ≠ none ∧
      ((opened .locked 2).head .h1).rejectionRun = 2) := by
  decide +kernel

/-- The last block of a revolution at HALF, and one beyond it. -/
theorem witness_SampleBlockIsStoredInOrder :
    (State.reset.head .h1).openRev = none ∧
    ((opened .locked 0).head .h1).openRev = some (complete 7 100) ∧ ((opened .locked 0).head .h1).state = .locked ∧
    ((15 : Byte).toNat = { complete 7 100 with nextBlock := 15 }.nextBlock ∧ (15 : Byte).toNat < rateBlocks .half) ∧
    ¬((16 : Byte).toNat = (complete 7 100).nextBlock ∧ (16 : Byte).toNat < rateBlocks .half) := by
  decide +kernel

theorem witness_BrokenRevolutionIsRejected :
    (State.reset.head .h1).openRev = none ∧ ((opened .training 0).head .h1).state ≠ .acquiring ∧
    ((opened .acquiring 0).head .h1).openRev = some (complete 7 100) ∧ (complete 7 100).number ≠ 8 ∧
    (1023 : BitVec 16).toNat ≠ rateSamples ((opened .acquiring 0).head .h1).rate ∧
    ((opened .acquiring 0).head .h1).state = .acquiring ∧
    (((opened .locked 1).head .h1).state = .locked ∧ ((opened .locked 1).head .h1).rejectionRun ≠ 2) ∧
    (((opened .locked 2).head .h1).state = .locked ∧ ((opened .locked 2).head .h1).rejectionRun = 2) := by
  decide +kernel

/-- The four outcomes of R15 at the ends of their ranges: periods of 1,999, 2,000, 40,000 and 40,001 µs, and a gap. -/
theorem witness_AcquiringJudgesByNumberAndPeriod :
    let s := acquiring .acquiring [10000, 10050, 9950] none 0 ⟨503, 33000⟩ (complete 504 43010)
    (s.head .h1).openRev = some (complete 504 43010) ∧ (s.head .h1).state = .acquiring ∧
    (1024 : BitVec 16).toNat = rateSamples (s.head .h1).rate ∧ rateBlocks (s.head .h1).rate ≤ (complete 504 43010).nextBlock ∧
    (s.head .h1).previous = some ⟨503, 33000⟩ ∧ (504 : BitVec 16) = 503 + 1 ∧ (505 : BitVec 16) ≠ 503 + 1 ∧
    (s.head .h1).periods.length = 3 ∧ ((opened .acquiring 0).head .h1).previous = none ∧
    ((complete 504 34999).startTime - 33000).toNat = 1999 ∧ ((complete 504 35000).startTime - 33000).toNat = 2000 ∧
    ((complete 504 73000).startTime - 33000).toNat = 40000 ∧ ((complete 504 73001).startTime - 33000).toNat = 40001 := by
  decide +kernel

/-- A reference, a number that does not follow, periods of 1,999, 2,000, 40,000 and 40,001 µs with three and with four of them behind
it, the second and the third rejection in a row, and a mark and a close test of the very moment. -/
theorem witness_LockedAcceptsAndDelivers :
    let r := complete 505 53000
    let s := acquiring .locked [10000, 10050, 9950, 10010] (some 10002) 1 ⟨504, 43010⟩ r
    let few := acquiring .locked [10000, 10050] (some 10002) 2 ⟨504, 43010⟩ r
    let marked := { s with slb := { s.slb with stale1 := true, staleTime1 := 0 } }
    ((s.head .h1).openRev = some r ∧ (s.head .h1).state = .locked ∧ (1024 : BitVec 16).toNat = rateSamples (s.head .h1).rate ∧
      rateBlocks (s.head .h1).rate ≤ r.nextBlock) ∧
    ((opened .locked 0).head .h1).previous = none ∧ (s.head .h1).previous = some ⟨504, 43010⟩ ∧
    ((505 : BitVec 16) = 504 + 1 ∧ (506 : BitVec 16) ≠ 504 + 1) ∧
    [1999, 2000, 40000, 40001] = [45009, 45010, 83010, 83011].map (fun t => ((complete 505 t).startTime - 43010).toNat) ∧
    ((s.head .h1).rejectionRun ≠ 2 ∧ (few.head .h1).rejectionRun = 2 ∧ (few.head .h1).periods.length < 3) ∧
    (staleMark marked .h1 = true ∧ staleMoment marked .h1 = marked.timebase ∧ r.startTime ≠ marked.timebase) ∧
    { s.slb with lastTest := some 0 }.lastTest = some s.timebase := by
  decide +kernel

theorem witness_HeadTimersExpire :
    let s := State.reset.setHead .h1 (headIn .powering .full)
    let bad : LineMonitor := { LineMonitor.reset with cls := .opened }
    let low : SupplyMonitor := { SupplyMonitor.reset with state := .outOfWindow }
    (State.reset.head .h1).state ≠ .powering ∧ ((s.head .h1).state = .powering ∧ (s.scv.line .h1).cls = .normal ∧
      (s.scv.supply .h1).state = .inWindow) ∧
    ({ s with scv := s.scv.setLine .h1 bad }.scv.line .h1).cls ≠ .normal ∧
    ({ s with scv := s.scv.setSupply .h1 low }.scv.supply .h1).state = .outOfWindow ∧
    ((opened .acquiring 0).head .h1).state = .acquiring ∧ ((opened .locked 0).head .h1).state = .locked := by
  decide +kernel

theorem witness_HeadRequestsMoveTheHead :
    let bad : LineMonitor := { LineMonitor.reset with cls := .shortGnd }
    let s := State.reset.setHead .h1 (headIn .faulted .full)
    (State.reset.port .p0).slot = .idle ∧ ((0 : Byte).toNat ≠ 1 ∧ (0 : Byte).toNat ≠ 2) ∧ (1 : Byte).toNat = headNumber .h1 ∧
    (2 : Byte).toNat = headNumber .h2 ∧
    ((s.head .h1).state = .faulted ∧ ({ s with scv := s.scv.setLine .h1 bad }.scv.line .h1).cls ≠ .normal) ∧
    (¬((s.head .h1).state = .faulted ∧ (s.scv.line .h1).cls ≠ .normal) ∧ (s.head .h1).state ≠ .locked) ∧
    (State.reset.head .h1).state = .off ∧ ((opened .locked 0).head .h1).state = .locked := by
  decide +kernel

theorem witness_HeadCounterIsSelectedAndCleared :
    (State.reset.port .p2).slot = .idle ∧ ((3 : Byte).toNat ≠ 1 ∧ (3 : Byte).toNat ≠ 2) ∧ 5 < (6 : Byte).toNat ∧
    (2 : Byte).toNat = headNumber .h2 ∧ (5 : Byte).toNat = selectionCode .trainFailures := by
  decide +kernel

/-- Codes at the bounds of the supply window 2600 to 3400, and the third code outside it in an active and in a LOCKED head. -/
theorem witness_SupplyConversionIsDebounced :
    let u := State.reset.setup.supply .h1
    let s := supplyAt .inWindow 2
    (u.low ≤ 2600 ∧ 3400 ≤ u.high) ∧ ¬u.low ≤ 2599 ∧ ¬3401 ≤ u.high ∧ s.scv.supply1.count = 2 ∧
    (supplyAt .inWindow 1).scv.supply1.count ≠ 2 ∧ ((s.setHead .h1 (headIn .acquiring .full)).head .h1).state ≠ .locked ∧
    (s.head .h1).state = .locked ∧ (supplyAt .outOfWindow 2).scv.supply1.state ≠ .inWindow := by
  decide +kernel

/-- The bands' bounds, and a third code in a row of another band in an OFF, an ACQUIRING and a LOCKED head. -/
theorem witness_LineConversionIsDebounced :
    let m : LineMonitor := { LineMonitor.reset with candidate := some .shortGnd, count := 2 }
    let s := { State.reset with scv := State.reset.scv.setLine .h1 m }
    (lineBand 255, lineBand 256, lineBand 2815, lineBand 2816, lineBand 3839, lineBand 3840) =
      (.shortGnd, .normal, .normal, .opened, .opened, .shortSupply) ∧
    ((s.scv.line .h1).candidate = some .shortGnd ∧ (s.scv.line .h1).count = 2) ∧
    (State.reset.scv.line .h1).candidate ≠ some .shortGnd ∧ (s.head .h1).state = .off ∧
    ((s.setHead .h1 (headIn .acquiring .full)).head .h1).state = .acquiring ∧
    ((s.setHead .h1 (headIn .locked .full)).head .h1).state = .locked := by
  decide +kernel

/-- Each change of the pair; the eighth illegal one with the other encoder HEALTHY in slip, and with it FAILED; and an encoder that
was FAILED already. -/
theorem witness_EncoderTransitionFollowsTheTable :
    let e := State.reset.chu.left
    let s := State.reset
    let t := { s with chu := { s.chu.setEncoder .left { e with illegal := 7 } with slip := true } }
    let failed := { s with chu := s.chu.setEncoder .right { e with health := .failed, illegal := 8 } }
    (⟨false, true⟩ : Phase) = ⟨e.phase.b, !e.phase.a⟩ ∧ (⟨true, false⟩ : Phase) = ⟨!e.phase.b, e.phase.a⟩ ∧
    ((⟨true, true⟩ : Phase) = ⟨!e.phase.a, !e.phase.b⟩ ∧ e.illegal + 1 < 8) ∧
    (8 ≤ (t.chu.encoder .left).illegal + 1 ∧ (t.chu.encoder .left).health = .healthy ∧
      (t.chu.encoder .right).health = .healthy ∧ t.chu.slip = true) ∧
    (failed.chu.encoder (otherSide .left)).health = .failed ∧ (failed.chu.encoder .right).illegal = 8 := by
  decide +kernel

theorem witness_SetChainageSetsThePosition :
    let s := { State.reset with locks := { LockTable.reset with setup := some .p0 } }
    (State.reset.port .p0).slot = .idle ∧ State.reset.locks.setup ≠ some .p0 ∧ s.locks.setup = some .p0 ∧
    s.slb.run ≠ .running ∧
    { s with slb := { s.slb with run := .running, segment := 65535 } }.slb.segment = 65535 := by
  decide +kernel

/-- An edge 4,999 µs after the last taken one is suppressed and one 5,000 µs after it is taken. The nearest enabled marker lies beyond
its own window, alone and with a farther one whose window reaches (marker 41 at 480 mm, marker 42 at 600 mm with a window of 2,000). -/
theorem witness_EdgesThatDoNotMatchAreSuppressedOrLogged :
    let s := State.reset
    let t := surveyedTrack 1203100000
    let off := t.mku.table.setIfInBounds 40 ⟨false, 1203100, 150, .check⟩
    let near := { t with mku := { t.mku with table := off.setIfInBounds 42 ⟨true, 1203700, 2000, .ring⟩ } }
    ((4999 : Time) - 0).toNat < 5000 ∧ ¬((5000 : Time) - 0).toNat < 5000 ∧ s.mku.lastEdge = none ∧ s.locks.markers = none ∧
    s.mku.suspended = false ∧ s.chu.quality = .lost ∧ (surveyedTrack 5000000).chu.quality ≠ .lost ∧
    (∀ e ∈ (surveyedTrack 5000000).mku.table.toList, e.enabled = true → e.window < (e.surveyed : Int) - 5000) ∧
    matchedMarker near (near.chu.chainage / 1000) = none := by
  decide +kernel

/-- A RING marker within half a slice length and one just beyond it, and a CHECK marker, each at the state's own chainage; the snap in
a RUNNING run. -/
theorem witness_MatchedEdgeConfirmsOrSnaps :
    let s := surveyedTrack 1203547860
    let check := surveyedTrack 1203110000
    let far := surveyedTrack 1203529000
    let running := { far with slb := { far.slb with run := .running, segment := 65535 } }
    matchedMarker s (s.chu.chainage / 1000) = some (41, ⟨true, 1203580, 200, .ring⟩) ∧ s.mku.lastEdge = none ∧
    s.locks.markers = none ∧ s.mku.suspended = false ∧ s.chu.quality ≠ .lost ∧
    ¬s.setup.sliceLength / 2 < ((1203580 : Int) - 1203530).natAbs ∧
    s.setup.sliceLength / 2 < ((1203580 : Int) - 1203529).natAbs ∧
    matchedMarker running (running.chu.chainage / 1000) = some (41, ⟨true, 1203580, 200, .ring⟩) ∧ running.slb.run = .running ∧
    running.slb.segment = 65535 ∧
    matchedMarker check (check.chu.chainage / 1000) = some (40, ⟨true, 1203100, 150, .check⟩) := by
  decide +kernel

theorem witness_StartRunBeginsOrIsRefused :
    (State.reset.port .p0).slot = .idle ∧ State.reset.locks.setup ≠ some .p0 ∧
    (ready0.locks.setup = some .p0 ∧ ready0.slb.run = .idle ∧ ready0.chu.quality ≠ .lost ∧
      ready0.setup.head1.enable = true ∧ (ready0.port .p0).slot = .idle) ∧
    { ready0 with slb := { ready0.slb with run := .draining } }.slb.run ≠ .idle ∧
    { ready0 with chu := { ready0.chu with quality := .lost } }.chu.quality = .lost ∧
    (ready0.head1.state ≠ .locked ∧ ready0.head2.state ≠ .locked) := by
  decide +kernel

/-- A run to flush; a slice of a THIN head part and an edit mark; and slice 6 (600 to 700 mm) passed at 700 mm and not at 699 mm. -/
theorem witness_StopRunFlushesAndEndsTheRun :
    let x := newSlice ready0 .increasing 6
    let s := (runningAt none 0).setHead .h1 (headIn .locked .full)
    let at' := fun (mm : Nat) => { s with chu := { s.chu with chainage := mm * 1000 }, slb := { s.slb with openSlices := [x] } }
    (ready0.port .p1).slot = .idle ∧ ready0.slb.run ≠ .running ∧ (at' 700).slb.run = .running ∧
    (closedSlice .flush ready0 { x with header := { x.header with part1 := some ⟨1, 0, 0, .full, 0⟩ } }).header.flags.thin = true ∧
    (closedSlice .passage ready0 { x with editMark := true }).header.flags.provisional = true ∧
    ((closeTest (at' 700)).slb.openSlices.length, (closeTest (at' 699)).slb.openSlices.length) = (0, 1) := by
  decide +kernel

theorem witness_AbortRunDiscardsTheQueue :
    (ready0.port .p1).slot = .idle ∧ ready0.slb.run = .idle ∧
    { ready0 with slb := { ready0.slb with run := .draining } }.slb.run ≠ .idle := by
  decide +kernel

/-- The index of the last closed slice and the one ahead of it, stale marks in RUNNING and in IDLE, with and without a direction. -/
theorem witness_RevolutionsNotBinnedAreDiscarded :
    let s := runningAt (some 5) 0
    ready0.slb.run ≠ .running ∧ (s.slb.run = .running ∧ s.slb.direction = some .increasing ∧ s.chu.quality ≠ .lost) ∧
    staleMark s .h1 = false ∧ staleMark (setStale s .h1 true) .h1 = true ∧ (∀ x ∈ s.slb.openSlices, x.header.index ≠ 5) ∧
    (s.slb.lastClosed = some 5 ∧ aheadOf .increasing 5 5 = false) ∧ aheadOf .increasing 6 5 = true ∧
    (500 / s.setup.sliceLength = 5) ∧ { s.slb with direction := none }.direction = none := by
  decide +kernel

/-- A queue of 64 and of 63 slices; 48 open, with an index behind the rearmost one (5 and 6) and ahead of the foremost one. -/
theorem witness_RevolutionsNotBinnedAreDiscarded_fullQueue :
    64 ≤ (queued 2 62).slb.openSlices.length + (queued 2 62).slb.pendingSlices.length ∧
    ((queued 48 15).slb.openSlices.length = 48 ∧ 48 + (queued 48 15).slb.pendingSlices.length < 64) ∧
    (∀ x ∈ (queued 48 15).slb.openSlices, x.header.index ≠ 5) ∧ aheadOf .increasing 5 4 = true ∧ aheadOf .increasing 6 5 = true := by
  decide +kernel

/-- An index with its slice open (6), without one (8), and ahead of 48 open slices (54); a queue that is empty and one that is not; and
distinct indices. -/
theorem witness_SlicesOpenAndTakeRevolutions :
    (∃ x ∈ (queued 2 0).slb.openSlices, x.header.index = 600 / (queued 2 0).setup.sliceLength) ∧
    (∀ x ∈ (queued 48 0).slb.openSlices, x.header.index ≠ 54) ∧ aheadOf .increasing 54 4 = true ∧
    aheadOf .increasing 6 54 = false ∧ (queued 48 15).slb.openSlices.length = 48 ∧ (queued 2 0).slb.openSlices.length ≠ 48 ∧
    ((queued 2 0).slb.openSlices.map (·.header.index)).Nodup ∧ (queued 2 0).slb.pendingSlices = [] ∧
    storeFree (queued 2 0) = true ∧ (queued 2 1).slb.pendingSlices ≠ [] := by
  decide +kernel

theorem witness_ZoneLookupTakesTheFirstEntryThatHolds :
    let z : ZoneEntry := ⟨true, 500, 1000, 0, 0, 1, false⟩
    let e := { EnvelopeTables.reset with zones := EnvelopeTables.reset.zones.setIfInBounds 0 z }
    let s := { ready0 with env := e }
    (s.locks.envelope = none ∧ s.env.suspended = false) ∧ s.env.zones[0]? = some z ∧ (z.start ≤ 500 ∧ 500 < z.stopAt) ∧
    (z.start ≤ 999 ∧ 999 < z.stopAt) ∧ ¬(z.start ≤ 499 ∧ 499 < z.stopAt) ∧ ¬(z.start ≤ 1000 ∧ 1000 < z.stopAt) ∧
    { s with env := { e with suspended := true } }.env.suspended = true ∧ zoneListFault e = none ∧
    zoneListFault { e with zones := e.zones.setIfInBounds 1 { z with start := 999 } } = some 1 := by
  decide +kernel

theorem witness_SectorStateFollowsTheTable :
    let x : SectorContents := ⟨some 8700, 40, 1⟩
    let empty : SectorContents := ⟨none, 0, 0⟩
    empty.hits = 0 ∧ x.hits ≠ 0 ∧ x.minimum = some 8700 ∧ 8700 ≤ 65535 ∧ 8760 ≤ 65535 ∧ 8760 ≠ 0 ∧ 200 ≤ 4095 := by
  decide +kernel

theorem witness_SampleIsValidExactlyWhenEveryStagePasses :
    let s : Sample := ⟨8700, 40⟩
    (-1000 ≤ (350 : Int) ∧ (350 : Int) ≤ 1000) ∧
      judgeSample (sampleSetup Setup.reset .h1 .full 350) 600 s = some (8700, 19) := by
  decide +kernel

theorem witness_BinningOrderDoesNotMatter :
    let v : Delivery := ⟨.h1, 7, .quarter, 0, 0, false, false, [⟨8700, 40⟩]⟩
    v.head ≠ ({ v with head := .h2 } : Delivery).head := by
  decide +kernel

theorem witness_CommitAppendsTheOldestPendingSlice :
    (let s := committing 2048 false false []
     s.slb.pendingSlices = pendingOne :: [] ∧ s.pst.holder = .commitPath ∧ s.pst.testRefused = false ∧
       s.pst.records.length = 2048 ∧ (s.pst.cursor .p0).position = s.pst.nextSeq - 2048 ∧
       (s.pst.cursor .p1).position = s.pst.nextSeq ∧ (s.pst.cursor .p2).position ≠ s.pst.nextSeq - 2048 ∧
       s.slb.run = .draining ∧ s.slb.openSlices = []) ∧
    (let s := committing 2047 false false [pendingOne]
     s.pst.records.length + 1 = s.setup.storeHigh ∧ anyPortWaiting s = false ∧
       anyPortWaiting (setSlot .p1 (.working .readNext 0x20) s) = true) := by
  decide +kernel

/-- Refused commits with and without a kept retry event, and a waiting port; commit blocked at a free store, with cursors that have
and have not a record before them; and retry events while the commit path holds the store. -/
theorem witness_RefusedCommitWaitsForARetry :
    let s := committing 2048 true false []
    let b := { twoRecords with pst := { storeOf 2 .retain with commitBlocked := true } }
    let gone := { b with port0 := { b.port0 with link := .up 500000 }, port2 := { b.port2 with link := .up 500000 } }
    (retained (storeOf 2048 .retain) = true ∧ retained (storeOf 2048 .follow) = false ∧ retained (storeOf 2047 .retain) = false) ∧
    (s.pst.holder = .commitPath ∧ s.slb.pendingSlices ≠ [] ∧ s.pst.testRefused = true ∧ s.pst.retryKept = false ∧
      nextWaiting s = none ∧ nextWaiting (waiting .p1 s) = some .p1 ∧ (committing 2048 true true []).pst.retryKept = true) ∧
    (b.pst.commitBlocked = true ∧ b.pst.commitWaiting = false ∧ (b.port .p2).slot = .idle ∧ storeFree b = true ∧
      ((b.pst.cursor .p2).position - (b.pst.nextSeq - 2)).toNat < b.pst.records.length ∧
      b.pst.records.length ≤ ((b.pst.cursor .p1).position - (b.pst.nextSeq - 2)).toNat ∧ b.locks.setup = some .p0 ∧
      b.slb.run = .idle) ∧
    ((b.pst.cursor .p0).mode = .retain ∧ cursorModeOf 0 = some .follow ∧ cursorModeOf 1 = some .retain) ∧
    (linkExpired .p0 gone = true ∧ linkExpired .p2 gone = true ∧ (gone.pst.cursor .p2).mode = .follow) ∧
    (b.pst.holder ≠ .port .p0 ∧ ∀ q ∈ [PortId.p0, .p1, .p2], portWaiting b q = false) ∧
    (s.pst.commitBlocked = false ∧ (s.port .p0).slot = .idle ∧ (s.pst.cursor .p0).mode = .follow ∧
      linkExpired .p0 { s with port0 := { s.port0 with link := .up 500000 } } = true) := by
  decide +kernel

/-- Cursors at the newest record and at newest + 1, and the counts at their bounds. -/
theorem witness_ReadsAdvanceTheCursor :
    let s := twoRecords
    (s.port .p2).slot = .idle ∧ storeFree s = true ∧ s.pst.commitBlocked = false ∧ s.pst.commitWaiting = false ∧
    s.pst.records[((s.pst.cursor .p2).position - (s.pst.nextSeq - 2)).toNat]? = some [0] ∧
    s.pst.records.length ≤ ((s.pst.cursor .p1).position - (s.pst.nextSeq - 2)).toNat ∧
    ((1 : Byte).toNat = 1 ∧ (4 : Byte).toNat = 4 ∧ (0 : Byte).toNat = 0 ∧ 4 < (5 : Byte).toNat) := by
  decide +kernel

/-- The oldest and newest number held, newest + 1, the numbers above and below. -/
theorem witness_NumbersArePlacedAgainstTheStore :
    let s := twoRecords
    let oldest := s.pst.nextSeq - BitVec.ofNat 32 s.pst.records.length
    s.pst.records[((7046 : SeqNo) - oldest).toNat]? = some [0] ∧ s.pst.records[((7047 : SeqNo) - oldest).toNat]? = some [0] ∧
    ((7048 : SeqNo) - oldest).toNat = s.pst.records.length ∧
    (s.pst.records.length < ((7049 : SeqNo) - oldest).toNat ∧ ((7049 : SeqNo) - s.pst.nextSeq).toNat < 2 ^ 31) ∧
    (s.pst.records.length < ((7045 : SeqNo) - oldest).toNat ∧ 2 ^ 31 ≤ ((7045 : SeqNo) - s.pst.nextSeq).toNat) ∧
    2 < (3 : Byte).toNat := by
  decide +kernel

theorem witness_CursorModeAndReport :
    (twoRecords.port .p0).slot = .idle ∧ cursorModeOf 1 = some .retain ∧ 1 < (2 : Byte).toNat ∧
    twoRecords.pst.commitBlocked = false ∧ twoRecords.pst.holder ≠ .commitPath := by
  decide +kernel

theorem witness_ClearStoreEmptiesTheStore :
    let s := twoRecords
    (s.port .p0).slot = .idle ∧ s.locks.setup = some .p0 ∧ s.locks.setup ≠ some .p1 ∧ s.slb.run = .idle ∧
    storeFree s = true ∧ s.pst.commitBlocked = false ∧ s.pst.commitWaiting = false ∧
    { s with slb := { s.slb with run := .draining } }.slb.run ≠ .idle ∧
    0 < s.pst.records.length - ((s.pst.cursor .p2).position - (s.pst.nextSeq - 2)).toNat ∧
    s.pst.records.length - ((s.pst.cursor .p1).position - (s.pst.nextSeq - 2)).toNat = 0 := by
  decide +kernel

/-- A free store and one that a commit holds, for every request; a release with two ports waiting, with none and with the commit path
waiting; the port that was granted the store; and STORE_GRANT with no such port. -/
theorem witness_WaitingPortsAreGrantedInRotation :
    let held := committing 5 false false []
    let s := waiting .p2 (waiting .p0 twoRecords)
    let granted := { s with pst := { s.pst with holder := .port .p0, lastGranted := .p0 } }
    ((held.port .p1).slot = .idle ∧ storeFree held = false) ∧
    ((twoRecords.port .p0).slot = .idle ∧ storeFree twoRecords = true ∧ twoRecords.pst.commitWaiting = false ∧
      twoRecords.locks.setup = some .p0 ∧ twoRecords.slb.run = .idle) ∧
    (1 ≤ (1 : Byte).toNat ∧ (4 : Byte).toNat ≤ 4 ∧ (0 : Byte).toNat = 0 ∧ (2 : Byte).toNat = 2) ∧
    (nextWaiting s = some .p0 ∧ nextWaiting twoRecords = none ∧ s.pst.commitWaiting = false) ∧
    { s with pst := { s.pst with commitWaiting := true } }.pst.commitWaiting = true ∧
    (granted.pst.holder = .port .p0 ∧ (granted.port .p0).slot = .working .readNext 0x20) ∧
    ∀ h ∈ [PortId.p0, .p1, .p2], twoRecords.pst.holder ≠ .port h := by
  decide +kernel

/-- R149, the order of the grants: port 0 was the last, port 2 waits, the commit path releases the store, port 1 asks; port 2 is
served first, port 1 after it. -/
theorem test_release_grants_before_a_later_asker :
    let a := after .commit (waiting .p2 { committing 5 false false [] with pst := { (committing 5 false false []).pst with
      lastGranted := .p0 } })
    let b := after (.readNext .p1) a
    (a.pst.holder, b.pst.holder, (after .storeGrant b).pst.holder, slotIdle (after .storeGrant b) .p1,
      ready (after .storeGrant b) .p2) = (.port .p2, .port .p2, .port .p1, false, true) := by
  decide +kernel

/-- A run whose one open slice, 6, infringes a stop zone: three samples at 500 within a radius of 600 in every sector. -/
def infringing : State :=
  let s := queued 1 0
  { s with
    env := { s.env with radii := Vector.replicate 512 600 },
    slb := { s.slb with openSlices := s.slb.openSlices.map fun x =>
      { x with header := { x.header with zone := ⟨32, 0, 50, 3, true⟩ }, sectors := Vector.replicate 64 ⟨some 500, 3, 3⟩ } } }

/-- R157: its close sets the latch and asserts STOP, in any manner of closing; with STOP_ENABLE off it does not. -/
theorem test_infringing_close_sets_the_stop_latch :
    let closed := fun (k : CloseKind) (on : Bool) =>
      let t := closeRearmost k { infringing with setup := { infringing.setup with stopEnable := on } }
      (stopLine t, outstanding .stopChange t.port2, t.slb.pendingSlices.map (·.cls))
    (closed .passage true, closed .forced true, closed .flush true, closed .flush false) =
      ((true, true, [.infringe]), (true, true, [.infringe]), (true, true, [.infringe]), (false, false, [.infringe])) := by
  decide +kernel

/-- A report and a close that set the latch, a close that makes no demand, and a latch to clear; the two worked cases of section
9.7.1 are tests above. -/
theorem witness_StopLatchIsSetAndCleared :
    (ready0.setup.stopEnable = true ∧ ready0.adv.stopLatch = false) ∧ (ready0.port .p0).slot = .idle ∧
    (reportClass .infringe true ready0).adv.stopLatch = true ∧ ((reportClass .infringe true ready0).port .p0).slot = .idle ∧
    (infringing.slb.openSlices.map fun x => ((closedSlice .flush infringing x).cls, x.header.zone.stop)) = [(.infringe, true)] ∧
    (infringing.setup.stopEnable = true ∧ infringing.adv.stopLatch = false) ∧
    ((queued 1 0).slb.openSlices.map fun x => (closedSlice .flush (queued 1 0) x).cls) = [.noData] := by
  decide +kernel

/-- An answer whose frame is 6 bytes, fetched whole and cut short, and an empty slot. -/
theorem witness_PollAndFetchClockOutTheSlot :
    let a : Answer := { status := .ok, echo := 0x10, payload := [] }
    ((setSlot .p0 (.ready a) ready0).port .p0).slot = .ready a ∧ (answerFrame a).length ≤ 6 ∧ 5 < (answerFrame a).length ∧
    ready ready0 .p0 = false := by
  decide +kernel

/-- R168: SEND, FETCH of three bytes, any other transaction byte, and none complete. -/
theorem test_transaction_bytes :
    transactionOf .p1 (0x5A :: withCheck [0x10, 0]) = .startRun .p1 ∧ transactionOf .p1 [0xA5, 0, 0, 0] = .fetch .p1 3 ∧
    transactionOf .p1 [0x5B, 0x10, 0] = .statusPoll .p1 ∧ transactionOf .p1 [] = .statusPoll .p1 := by
  decide +kernel

/-- A slot that is not IDLE, and frames for each finding at the ends of their ranges. -/
theorem witness_SendFramesAreJudgedBeforeTheirRequest :
    let a : Answer := { status := .ok, echo := 0x10, payload := [] }
    ((setSlot .p0 (.ready a) ready0).port .p0).slot ≠ .idle ∧ requestParts (.startRun .p0) = some (.p0, 0x10, []) ∧
    Instr.startRun .p0 ≠ .portReset .p0 ∧ ([0x10, 0, 1] : List Byte).length < 4 ∧ checkMatches [0x10, 0, 1, 2] = false ∧
    checkMatches (withCheck [0x10, 251]) = true ∧ checkMatches (withCheck [0x07, 0]) = true ∧ payloadLength 0x07 = none ∧
    payloadLength 0x10 = some (.exact 0) ∧ lengthFits (.exact 0) 1 = false ∧ lengthFits .tableWrite 2 = false ∧
    lengthFits .tableWrite 16 = false := by
  decide +kernel

/-- A DOWN link, a stopped timer, an UP link one µs before its time and at it, with and without locks. -/
theorem witness_LinkTimeoutTakesTheLinkDown :
    let s := { ready0 with port0 := { ready0.port0 with link := .up 500000 } }
    let early := { ready0 with port0 := { ready0.port0 with link := .up 499999 } }
    (ready0.port .p1).link = .down ∧ { s.setup with linkTimeout0 := 0 }.linkTimeout .p0 = 0 ∧
    ((early.port .p0).link = .up 499999 ∧ 499999 < early.setup.linkTimeout .p0 * 10000) ∧
    ((s.port .p0).link = .up 500000 ∧ s.setup.linkTimeout .p0 ≠ 0 ∧ s.setup.linkTimeout .p0 * 10000 ≤ 500000) ∧
    (s.locks.holder .setup = some .p0 ∧ s.locks.envelope ≠ some .p0 ∧ s.locks.markers ≠ some .p0) ∧
    (∀ k ∈ [Lock.envelope, .markers, .setup], s.locks.holder k ≠ some .p1) ∧
    { s with locks := ⟨some .p0, some .p0, none⟩ }.locks.markers = some .p0 := by
  decide +kernel

/-- R171, R182: a valid frame or a soft reset that is taken before the expiry leaves the link UP. -/
theorem test_link_timeout_behind_a_frame :
    let s := { ready0 with port0 := { ready0.port0 with link := .up 500000 } }
    (linkUp (after (.linkTimeout .p0) s).port0, linkUp (after (.linkTimeout .p0) (after (.readStatus .p0) s)).port0,
      linkUp (after (.linkTimeout .p0) (after (.softReset .p0) s)).port0) = (false, true, true) := by
  decide +kernel

/-- A free lock, one held by the port and one held by another, and a valid and an invalid marker table. -/
theorem witness_LocksAreTakenAndGiven :
    let disorder : MarkerUnit := { MarkerUnit.reset with
      table := MarkerUnit.reset.table.map fun e => { e with enabled := true } }
    let s := { ready0 with locks := ⟨some .p1, some .p0, none⟩ }
    (s.port .p0).slot = .idle ∧ 2 < (3 : Byte).toNat ∧ lockOf 0 = some .envelope ∧ lockOf 1 = some .markers ∧
    lockOf 2 = some .setup ∧ s.locks.holder .setup = none ∧ s.locks.holder .markers = some .p0 ∧
    s.locks.holder .envelope = some .p1 ∧ lockFault .markers s = none ∧ lockFault .markers { s with mku := disorder } = some 1 := by
  decide +kernel

/-- R60, R68: after a GIVE the first enabled marker is expected that is not passed by more than its window. -/
theorem test_give_recomputes_the_expected_marker :
    let at' := fun (um : Nat) => (after (.giveLock .p0 1) { surveyedTrack um with locks := ⟨none, some .p0, none⟩ }).mku.nextExpected
    (at' 1203780999, at' 1203781000) = (some 41, some 42) := by
  decide +kernel

/-- 500 counts of both encoders are 50,000 µm, 499 are 49,900 µm; both ways, with the direction known and not, and clamped at 0; a
stretch of 500,000 µm and one just below it; one encoder FAILED; and quality LOST or not in RUNNING. -/
theorem witness_WindowEndFusesAndUpdatesTheDirection :
    let moved := fun (n : Int) (d : Option Direction) => { runningAt none 0 with chu := { ready0.chu with
      left := { ready0.chu.left with delta := n }, right := { ready0.chu.right with delta := n }, direction := d } }
    let stretched := fun (n : Int) => { moved n none with chu := { (moved n none).chu with slipTravel := 450000 } }
    fusedDistance (moved 500 none) = 50000 ∧ fusedDistance (moved 499 none) = 49900 ∧
    fusedDistance (moved (-500) (some .increasing)) = -50000 ∧ chainageSum (moved (-500) (some .increasing)) < 0 ∧
    ((moved (-500) (some .increasing)).chu.quality ≠ .lost ∧ (moved (-500) (some .increasing)).slb.run = .running) ∧
    fusedDistance (moved 0 (some .increasing)) = 0 ∧ (moved 500 none).chu.direction = none ∧
    (moved 500 none).chu.determination = 0 ∧ (moved 499 (some .decreasing)).chu.reversal = 0 ∧
    ((stretched 500).chu.slipTravel + (fusedDistance (stretched 500)).natAbs = 500000 ∧
      (stretched 499).chu.slipTravel + (fusedDistance (stretched 499)).natAbs < 500000) ∧
    ((stretched 500).chu.left.health = .healthy ∧ { (stretched 500).chu.left with health := .failed }.health ≠ .healthy) := by
  decide +kernel

/-- R68 to R70: the expected marker at 1,203,580 mm with a window of 200 is missed one mm beyond 1,203,780 and not there; the second
miss in a row reaches MISS_LIMIT, and the next marker is expected. -/
theorem test_marker_miss_beyond_the_window :
    let at' := fun (um : Nat) => after .windowEnd (surveyedTrack um)
    ((at' 1203780999).mku.missCount, (at' 1203780999).mku.nextExpected, (at' 1203780999).chu.quality) =
      (1, some 41, .deadReckoned) ∧
    ((at' 1203781000).mku.missCount, (at' 1203781000).mku.nextExpected, (at' 1203781000).chu.quality) =
      (2, some 42, .degraded) := by
  decide +kernel

/-- R79: a reversal of a RUNNING run with slice 6 open breaks its segment: the slice is pending, and the next segment decreases. -/
theorem test_reversal_breaks_the_segment :
    let s := queued 1 0
    let t := after .windowEnd { s with chu := { s.chu with
      chainage := 9000000, direction := some .increasing, reversal := 48000, left := { s.chu.left with delta := -48 },
      right := { s.chu.right with delta := -48 } } }
    (t.slb.openSlices.length, t.slb.pendingSlices.length, t.slb.segment, t.slb.direction) = (0, 1, 1, some .decreasing) := by
  decide +kernel

/-- R80: in segment 65535 the break ends the run, whose slice 6 is then pending, and raises RUN_STATE and SEGMENT_BREAK. -/
theorem test_break_in_the_last_segment_ends_the_run :
    let s := queued 1 0
    let t := after .windowEnd { s with
      slb := { s.slb with segment := 65535 }
      chu := { s.chu with
        chainage := 9000000, direction := some .increasing, reversal := 48000, left := { s.chu.left with delta := -48 },
        right := { s.chu.right with delta := -48 } } }
    (t.slb.run, t.slb.segment, t.slb.pendingSlices.length, outstanding .runState t.port1, outstanding .segmentBreak t.port1) =
      (.draining, 65535, 1, true, true) := by
  decide +kernel

/-- R99: a close test of the delivery's own moment, taken first, closes slice 6 (600 to 700 mm) and the revolution is LATE; without
one it is binned into the slice, which then closes. -/
theorem test_delivery_at_the_moment_of_a_close_test :
    let r := { complete 7 100 with headChainage := 650 }
    let s := (queued 1 0).setHead .h1 { headIn .locked .half with
      averagedPeriod := some 10000, selection := .late, openRev := some r }
    let at' := fun (last : Option Time) =>
      let t := after (.revEnd .h1 7 1024) { s with
        timebase := 200, chu := { s.chu with chainage := 800000 }, slb := { s.slb with lastTest := last } }
      (t.head1.counter, t.slb.pendingSlices.map (fun x => x.header.part1.isSome))
    (at' (some 200), at' (some 199), at' none) = ((1, [false]), (0, [true]), (0, [true])) := by
  decide +kernel

/-- R99: a break before the delivery makes the revolution LATE, also in UNDETERMINED; one taken in the delivery's own moment does not. -/
theorem test_delivery_at_the_moment_of_a_break :
    let head := (opened .locked 0).head1
    let s := (runningAt none 0).setHead .h1 { head with selection := .late }
    let at' := fun (now : Time) (d : Option Direction) =>
      let t := after (.revEnd .h1 7 1024) { s with timebase := now, slb := { s.slb with stale1 := true, direction := d } }
      (t.head1.counter, t.slb.openSlices.length, t.slb.stale1)
    (at' 200 (some .increasing), at' 200 none, at' 0 (some .increasing)) = ((1, 0, false), (1, 0, false), (0, 1, false)) := by
  decide +kernel

/-- The Envelope Tables after a device reset, with radius[0][0] at a value. -/
def tablesWith (n : Nat) : EnvelopeTables := { EnvelopeTables.reset with radii := EnvelopeTables.reset.radii.setIfInBounds 0 n }

/-- R112, R113: a sample at 9,964 lies below a radius of 9,965 and not below one of 9,964; a radius written between two samples judges
only the second. -/
theorem test_sample_below_the_radius_intrudes :
    let taken := fun e xs => (binSamples e 0 (exampleSetup .forward) 1000 xs ⟨freshSectors, 0, 0⟩).sectors[0]
    let two : List Sample := [⟨10000, 60⟩, ⟨10000, 60⟩]
    (taken (fun _ => tablesWith 9965) [⟨10000, 60⟩], taken (fun _ => tablesWith 9964) [⟨10000, 60⟩],
      taken (fun k => if k < 1001 then tablesWith 9965 else tablesWith 0) two) =
      (⟨some 9964, 1, 1⟩, ⟨some 9964, 1, 0⟩, ⟨some 9964, 2, 1⟩) := by
  decide +kernel

/-- R113: a radius written in the moment of a delivery is the old one at a place before the write and the new one at a place behind
it, wherever the free value puts the write; with no write of the moment the tables are as they stand. -/
theorem test_radius_write_within_a_delivery :
    let s := { State.reset with env := tablesWith 9964, slb := { SliceBuilder.reset with radiusWrites := [⟨0, 9965⟩] } }
    (∀ k, k < Config.writePlace 0 0 → radius (tablesAt s k) 0 0 = 9965) ∧
    (∀ k, Config.writePlace 0 0 ≤ k → radius (tablesAt s k) 0 0 = 9964) ∧
    ∀ k, tablesAt { s with slb := .reset } k = s.env := by
  have h : beforeWrites [⟨0, 9965⟩] (tablesWith 9964) = tablesWith 9965 := by decide +kernel
  have old : radius (tablesWith 9965) 0 0 = 9965 := by decide +kernel
  have new : radius (tablesWith 9964) 0 0 = 9964 := by decide +kernel
  refine ⟨fun k hk => ?_, fun k hk => ?_, fun k => rfl⟩
  · simpa [tablesAt, writesToCome, State.reset, State.resetWith, hk, h] using old
  · simpa [tablesAt, writesToCome, State.reset, State.resetWith, Nat.not_lt.mpr hk, beforeWrites] using new

/-- A valid and an invalid sample, and sectors as they stand at the opening. -/
theorem witness_BinningCountsEverySampleOnce :
    judgeSample (exampleSetup .forward) 1000 ⟨10000, 60⟩ = some (9964, 0) ∧
    judgeSample (exampleSetup .forward) 1000 ⟨10000, 7⟩ = none ∧
    ∀ (i : Nat) (hi : i < 64), (freshSectors[i].minimum.isSome = decide (0 < freshSectors[i].hits)) ∧
      freshSectors[i].hits ≤ 255 ∧ freshSectors[i].intrusions ≤ 255 := by
  decide +kernel

theorem witness_ClassAndWorstSectorAreTheExtremes :
    worstOf [⟨.noData, 0, 0, -9⟩, ⟨.warn, 3, 0, -5⟩, ⟨.clear, 3, 0, -5⟩] = some (1, -5) ∧
    sliceClass [⟨.noData, 0, 0, -9⟩, ⟨.warn, 3, 0, -5⟩, ⟨.clear, 3, 0, -5⟩] = .warn ∧ worstOf [⟨.unchecked, 3, 0, 0⟩] = none := by
  decide +kernel

theorem witness_SignalsAndEventsAreSetAndRead : (State.reset.port .p1).slot = .idle := by decide +kernel

/-- The last index of each table, the one beyond it, and the modes at their bound; the first and last entries of each table. -/
theorem witness_TablesArePointedAndRead :
    let s := State.reset
    (s.port .p0).slot = .idle ∧ 3 < (4 : Byte).toNat ∧ tableOf 3 = some .markers ∧
    lastIndex .markers + 1 < (257 : BitVec 16).toNat ∧ (256 : BitVec 16).toNat ≤ lastIndex .markers + 1 ∧ 2 < (3 : Byte).toNat ∧
    (2 : Byte).toNat ≤ 2 ∧ (s.port .p0).index ≤ lastIndex (s.port .p0).table ∧
    lastIndex .setup < { s.port .p0 with index := 43 }.index ∧
    (s.env.radii[511]?.isSome ∧ s.env.zones[31]?.isSome ∧ s.mku.table[255]?.isSome) := by
  decide +kernel

/-- Every finding in its order, a write that passes, and one that takes another port's link DOWN and frees its lock. -/
theorem witness_TableWritesAreJudgedInOrder :
    let s := pointing .setup 21
    Instr.tableWriteEncK .p0 1 [0, 0, 0, 5] ∈ tableWrites .p0 1 [0, 0, 0, 5] ∧ (s.port .p0).slot = .idle ∧
    ([0] : List Byte).length < 2 ∧ 14 < (List.replicate 15 (0 : Byte)).length ∧ 2 < (3 : Byte).toNat ∧
    lastIndex .setup < ((pointing .setup 43).port .p0).index ∧ [0, 0, 0].length ≠ entryLength .setup 21 ∧
    ready0.locks.holder (tableLock .markers) ≠ some .p0 ∧ (runFixed .encK = true ∧ (runningAt none 0).slb.run ≠ .idle) ∧
    (entryRange (setupEntryOf 18) = .oneOf [0, 1] ∧ intOf (bytesOf 4 2) ∉ [0, 1]) ∧
    [0, 0, 0, 5].length = entryLength .setup 21 := by
  decide +kernel

/-- R171, R174: LINK_TIMEOUT[1] written to 1 (10 ms), with 10,000 µs gone on port 1, frees port 1's lock at once. -/
theorem test_link_timeout_written_at_the_elapsed_time :
    let s := { pointing .setup 41 with locks := ⟨some .p1, none, some .p0⟩ }
    let at' := fun (n : Nat) =>
      let t := after (.tableWriteLinkTimeout .p0 0 (bytesOf 4 1)) { s with port1 := { s.port1 with link := .up n } }
      (linkUp t.port1, t.locks.envelope, outstanding .portDown t.port2)
    (at' 9999, at' 10000) = ((true, some .p1, false), (false, none, true)) := by
  decide +kernel

/-- Entries at the ends of their ranges and beyond, one of each form; HEAD_ENABLE of a LOCKED head; DEFAULT and a zone with an
enumerated field outside its set; a clamped zone and a clamped marker. -/
theorem witness_TableWritesStoreTheirEntries :
    let s := pointing .setup 21
    (1000 ≤ (1000 : Int) ∧ (1000 : Int) ≤ 20000 ∧ entryRange .encK = .within 1000 20000 ∧ entryRange (.headShadow .h1) = .mask ∧
      0 ≤ (2 ^ 64 - 1 : Int) ∧ (2 ^ 64 - 1 : Int) < 2 ^ 64) ∧
    ((s.port .p0).slot = .idle ∧ (s.port .p0).index ≤ lastIndex .setup ∧ (bytesOf 4 20001).length = entryLength .setup 21 ∧
      s.locks.holder (tableLock .setup) = some .p0 ∧ s.slb.run = .idle) ∧
    entryRange (setupEntryOf 21) = .within 1000 20000 ∧ setupEntryOf 21 = .encK ∧ setupEntryOf 36 = .vCfg ∧
    (setupEntryOf 40 = .linkTimeout .p0 ∧ setupEntryOf 41 = .linkTimeout .p1) ∧ entryRange (setupEntryOf 18) = .oneOf [0, 1] ∧
    intOf (bytesOf 4 1) = 1 ∧ entryRange (setupEntryOf 6) = .mask ∧
    (setupEntryOf 0 = .headEnable .h1 ∧ (((pointing .setup 0).setHead .h1 (headIn .locked .full)).head .h1).state = .locked ∧
      ((pointing .setup 0).head .h1).state = .off) ∧
    (zoneBytes true 0 1000000001 7 4096 16 true).length = entryLength .zones 31 ∧
    (zoneBytes true 0 0 8 0 1 true).length = entryLength .zones 32 ∧
    (natOf (((zoneBytes true 0 0 8 0 1 true).drop 9).take 1) = 8 ∧ natOf (((zoneBytes true 0 0 7 0 1 true).drop 9).take 1) = 7) ∧
    (markerBytes ⟨true, 1000000000, 2001, .ring⟩).length = entryLength .markers 255 ∧
    natOf (((markerBytes ⟨true, 1000000000, 2001, .ring⟩).drop 1).take 4) = 1000000000 ∧
    (bytesOf 2 65535).length = entryLength .profiles 511 := by
  decide +kernel

/-- R94, R7: HEAD_ENABLE off for the only LOCKED head of a run flushes its open slice. -/
theorem test_head_enable_off_flushes :
    let s := (queued 1 0).setHead .h1 { headIn .locked .full with averagedPeriod := some 10000 }
    let t := after (.tableWriteHeadEnable .p0 0 (bytesOf 4 0)) s
    (t.head1.state, t.slb.openSlices.length, t.slb.pendingSlices.length) = (.off, 0, 1) := by
  decide +kernel

/-- A port that waits, one that does not, and one that was granted the store. -/
theorem witness_PortResetEmptiesThePort :
    let s := waiting .p0 twoRecords
    let granted := { s with pst := { s.pst with holder := .port .p0 } }
    (s.pst.holder ≠ .port .p0 ∧ portWaiting twoRecords .p0 = false) ∧
    (granted.pst.holder = .port .p0 ∧ portWaiting granted .p0 = true) := by
  decide +kernel

theorem witness_ReportsAnswerWithoutEffect :
    (surveyedTrack 1203547860).mku.log.length = 0 ∧ (after .markEdge (surveyedTrack 1203547860)).mku.log[0 + 0]?.isSome = true ∧
    (opened .locked 0).head1.previous = none ∧
    (State.reset.port .p0).slot = .idle ∧ (1 : Byte).toNat = headNumber .h1 ∧ ((0 : Byte).toNat ≠ 1 ∧ (0 : Byte).toNat ≠ 2) ∧
    15 < (16 : Byte).toNat ∧ (15 : Byte).toNat ≤ 15 ∧ (16 : Byte).toNat ≤ 16 ∧ 16 < (17 : Byte).toNat := by
  decide +kernel

theorem witness_SoftResetKeepsTheSetup :
    (ready0.port .p0).slot = .idle ∧ ready0.locks.setup = some .p0 ∧ ready0.locks.setup ≠ some .p1 ∧
    (ready0.setup.head .h1).enable = true ∧ (ready0.setup.head .h2).enable = false := by
  decide +kernel

/-- A port with an UP link and the SETUP lock, and its next step. -/
theorem witness_EveryStepKeepsLocksAndRanges :
    let s := { ready0 with port0 := { ready0.port0 with link := .up 0 }, pending := [.linkTimeout .p0] }
    locksUp s ∧ positionSound s ∧ setupSound s.setup ∧ ∃ t, step s = .next t := by
  refine ⟨?_, ?_, ?_, _, rfl⟩
  · intro k p; cases k <;> cases p <;> decide +kernel
  · exact ⟨by decide +kernel, by decide +kernel⟩
  · intro e
    cases e with
    | headEnable h => cases h <;> (change (_ : Int) ∈ ([0, 1] : List Int); decide +kernel)
    | headMaxRate h => cases h <;> (change (_ : Int) ∈ ([1, 2, 3] : List Int); decide +kernel)
    | headDownspeed h => cases h <;> (change (_ : Int) ∈ ([0, 2, 4, 6] : List Int); decide +kernel)
    | headOffset h => cases h <;> exact ⟨by decide +kernel, by decide +kernel⟩
    | headZero h => cases h <;> exact ⟨by decide +kernel, by decide +kernel⟩
    | headPhase h => cases h <;> exact ⟨by decide +kernel, by decide +kernel⟩
    | headShadow h => trivial
    | intensityFloor h => cases h <;> exact ⟨by decide +kernel, by decide +kernel⟩
    | orientation => change (_ : Int) ∈ ([0, 1] : List Int); decide +kernel
    | avg c =>
      cases c with
      | cant => change (_ : Int) ∈ ([1, 2, 4, 8] : List Int); decide +kernel
      | supply h => cases h <;> (change (_ : Int) ∈ ([1, 2, 4, 8] : List Int); decide +kernel)
      | line h => cases h <;> (change (_ : Int) ∈ ([1, 2, 4, 8] : List Int); decide +kernel)
    | supplyLow h => cases h <;> exact ⟨by decide +kernel, by decide +kernel⟩
    | supplyHigh h => cases h <;> exact ⟨by decide +kernel, by decide +kernel⟩
    | stopEnable => change (_ : Int) ∈ ([0, 1] : List Int); decide +kernel
    | linkTimeout p => cases p <;> exact ⟨by decide +kernel, by decide +kernel⟩
    | _ => exact ⟨by decide +kernel, by decide +kernel⟩

/-- One head LOCKED and one in POWERING. -/
theorem witness_EveryStepKeepsTheHeadsSound :
    let s := (opened .locked 2).setHead .h2 (headIn .powering .full)
    headsSound s ∧ ∃ t, step s = .next t := by
  refine ⟨?_, _, rfl⟩
  intro h
  cases h <;> (unfold headSound; decide +kernel)

/-- Two records, with cursors at the oldest, at the newest and at newest + 1. -/
theorem witness_EveryStepKeepsTheStoreSound :
    let t := { storeOf 2 .follow with records := List.replicate 2 (List.replicate 480 0), cursor0 := ⟨7046, .retain, 0⟩ }
    let s := { ready0 with pst := t, pending := [.readNext .p0] }
    storeSound s.pst ∧ ∃ t, step s = .next t := by
  refine ⟨⟨by decide +kernel, by decide +kernel, ?_⟩, _, rfl⟩
  intro p; cases p <;> decide +kernel

/-- A run with slices 6 and 7 open behind slice 5. -/
theorem witness_EveryStepKeepsTheQueueInOrder :
    let s := runningAt (some 5) 0
    let b := { s.slb with openSlices := [newSlice s .increasing 6, newSlice s .increasing 7] }
    queueSound b ∧ ∃ t, step { s with slb := b } = .next t := by
  have ordered : ∀ k, some 5 = some k → ∀ x ∈ [newSlice (runningAt (some 5) 0) .increasing 6,
      newSlice (runningAt (some 5) 0) .increasing 7], aheadOf .increasing x.header.index k = true := by
    rintro _ ⟨⟩; decide +kernel
  refine ⟨⟨?_, ?_, ?_, ?_, ?_, ?_, ordered⟩, _, rfl⟩ <;> decide +kernel

/-- A slice pending and its commit in the store. -/
theorem witness_EveryStepKeepsTheCommitPathAtWork :
    commitSound (committing 5 false false []) ∧ ∃ t, step (committing 5 false false []) = .next t := by
  refine ⟨⟨?_, ?_, ?_, fun p => ?_, ?_⟩, _, rfl⟩
  case refine_4 => cases p <;> decide +kernel
  all_goals decide +kernel

/-- A running part with the advice of its inputs. -/
theorem witness_EveryStepKeepsTheAdviceOfItsInputs :
    adviceSound (evaluateAdvice (runningAt none 0)) ∧ (evaluateAdvice (runningAt none 0)).adv.advice.level = .stop := by
  refine ⟨⟨by decide +kernel, by decide +kernel⟩, by decide +kernel⟩

theorem witness_FramesAreReadAsTheirCommands :
    (Instr.tableWriteEncK .p0 1 [0, 0, 0, 5]).wellFormed = true ∧
    (requestFrame (.tableWriteEncK .p0 1 [0, 0, 0, 5])).isSome = true ∧ (headFrame (.trainAck .h1 3)).isSome = true := by
  decide +kernel

end Sys2Proof.Tests
end

/-! SUPPORT. What a head leaves when it enters a state, and the success of a training attempt (R6, R9). -/

namespace Sys2Proof.Machine

/-- Entering a state sets it together with its timers (R6, Table 1-9). -/
theorem withTimers_state_eq_inState (dest : HeadState) (r : HeadReceiver) :
    { withTimers dest r with state := dest } = inState dest r := rfl

/-- A change of state that neither enters nor leaves LOCKED sets the head and raises HEAD_STATE, and no other block is told (R6). -/
theorem enterState_of_ne_of_not_locked {h : HeadId} {dest : HeadState} {s : State} (changes : (s.head h).state ≠ dest)
    (source : (s.head h).state ≠ .locked) (target : dest ≠ .locked) :
    enterState h dest s = raiseAll .headState (s.setHead h (inState dest (s.head h))) := by
  simp [enterState, changes, source, target, withTimers_state_eq_inState]

/-- The success of an attempt takes a TRAINING head to ACQUIRING with its counts and history cleared (R9). -/
theorem trainingSuccess_of_training {h : HeadId} {s : State} (training : (s.head h).state = .training) :
    trainingSuccess h s = raiseAll .headState (s.setHead h { inState .acquiring (s.head h) with
      trainFailures := 0, periods := [], previous := none, rejectionRun := 0, averagedPeriod := none }) := by
  unfold trainingSuccess enterAcquiring
  rw [enterState_of_ne_of_not_locked (by simp [acquiringValues, training]) (by simp [acquiringValues, training])
    HeadState.noConfusion]
  simp only [setHead_head_self, setHead_setHead]
  rfl

/-- A TRAIN_ACK is carried out as the Head Receiver takes it. -/
theorem exec_trainAck (h : HeadId) (code : Byte) (s : State) : exec (.trainAck h code) s = .next (takeTrainAck h code s) := rfl

/-- In TRAINING the rate code decides between the success and the failure of the attempt (R9, R10). -/
theorem takeTrainAck_of_training {h : HeadId} {s : State} (code : Byte) (training : (s.head h).state = .training) :
    takeTrainAck h code s =
      if code.toNat = rateCode (s.head h).rate then trainingSuccess h s else trainingFailure h s := by
  simp [takeTrainAck, training, codeMatches]

/-- Settles O4: the matching code chooses the success of the attempt, an entry to ACQUIRING from a state that is not LOCKED. -/
theorem trainAckAtTheCurrentRateReachesAcquiring : Obligations.TrainAckAtTheCurrentRateReachesAcquiring := by
  intro h code s training current
  rw [exec_trainAck, takeTrainAck_of_training code training, if_pos current, trainingSuccess_of_training training]

end Sys2Proof.Machine

/-! SUPPORT. The clamp and the rounding of section 1.6.3 as arithmetic, and what the Sector Engine's stages 1 to 3 and its close answer
(chapter 6). -/

namespace Sys2Proof.Machine

/-! ## Clamp and rounding -/

/-- For bounds in order it does not matter which end is tested first. -/
theorem clampInt_eq_max_min {lo hi : Int} (ordered : lo ≤ hi) (v : Int) : clampInt lo hi v = max lo (min hi v) := by
  unfold clampInt; omega

/-- R107: the magnitude rises by one at a remainder of 2250, half the divisor. -/
theorem cantOffset_eq (cant : Int) :
    let q : Int := cant * 256
    let m : Int := (q.natAbs / 4500 + (if 2250 ≤ q.natAbs % 4500 then 1 else 0) : Nat)
    cantOffset cant = if q < 0 then -m else m := by
  have half (r : Nat) : 4500 ≤ 2 * r ↔ 2250 ≤ r := by omega
  simp only [cantOffset, roundDiv, half]

/-- R107: a cant within the range of R33 is an offset of 57 angle units at most. -/
theorem cantOffset_bounds {cant : Int} (low : -1000 ≤ cant) (high : cant ≤ 1000) :
    -57 ≤ cantOffset cant ∧ cantOffset cant ≤ 57 := by
  simp only [cantOffset_eq]
  split_ifs <;> omega

/-! ## Stages 2 and 3: angle and sector -/

/-- Table 1-7: the samples of a revolution share the 2048 angle units evenly. -/
theorem angleStep_eq (rate : Rate) : angleStep rate = 2048 / rateSamples rate := by cases rate <;> rfl

/-- R108: the angle before mirroring, from the quantities of Table 6-3. -/
theorem trackAngle_sampleSetup (u : Setup) (h : HeadId) (rate : Rate) (cant : Int) (k : Nat) :
    trackAngle (sampleSetup u h rate cant) k =
      ((((k * (2048 / rateSamples rate) + (u.head h).phase : Nat) : Int) + cantOffset cant).emod 2048).toNat := by
  rw [← angleStep_eq]; rfl

theorem trackAngle_lt (c : SampleSetup) (k : Nat) : trackAngle c k < 2048 := by
  unfold trackAngle; omega

/-- R109: a REVERSED trolley mirrors the angle, a FORWARD one keeps it. -/
theorem mirrored_eq (o : Orientation) (a : Nat) : mirrored o a = if o = .forward then a else (2048 - a) % 2048 := by
  cases o <;> rfl

theorem mirrored_lt (o : Orientation) {a : Nat} (inRange : a < 2048) : mirrored o a < 2048 := by
  cases o with
  | forward => exact inRange
  | reversed => exact Nat.mod_lt _ (by decide)

/-- R110: every sample falls in one of the 64 sectors. -/
theorem sampleSector_lt (c : SampleSetup) (k : Nat) : sampleSector c k < 64 := by
  have := mirrored_lt c.orientation (trackAngle_lt c k)
  unfold sampleSector; omega

/-! ## Stage 1 and the shadow: the valid samples -/

/-- R105: the corrected range is the raw range with the zero correction, clamped to 16 bits. -/
theorem correctedRange_cast (c : SampleSetup) (raw : Nat) :
    (correctedRange c raw : Int) = max 0 (min 65535 ((raw : Int) + c.zero)) := by
  rw [correctedRange, clampInt_eq_max_min (by decide)]; omega

/-- R104 to R106: a sample passes stage 1 exactly when its raw range, its intensity and its corrected range do. -/
theorem stageRange_eq_some_iff {c : SampleSetup} {x : Sample} {rc : Nat} :
    stageRange c x = some rc ↔
      (x.range.toNat ≠ 0 ∧ x.range.toNat ≠ 65535 ∧ c.intensityFloor ≤ x.intensity.toNat) ∧
        rc = correctedRange c x.range.toNat ∧ c.rangeMin ≤ rc ∧ rc ≤ c.rangeMax := by
  simp only [stageRange, Option.ite_none_left_eq_some, Option.some_inj, not_or, not_lt]
  constructor
  · rintro ⟨fit, window, rfl⟩
    exact ⟨fit, rfl, window⟩
  · rintro ⟨fit, rfl, window⟩
    exact ⟨fit, window, rfl⟩

/-- R104 to R110: a sample that passes stage 1 is valid exactly when its sector is not shadowed. -/
theorem judgeSample_eq_some_iff {c : SampleSetup} {k : Nat} {x : Sample} {rc sector : Nat} :
    judgeSample c k x = some (rc, sector) ↔
      stageRange c x = some rc ∧ sector = sampleSector c k ∧ c.shadow.getLsbD sector = false := by
  unfold judgeSample
  cases stageRange c x with
  | none => simp
  | some passed =>
    simp only [Option.ite_none_left_eq_some, Option.some_inj, Prod.mk.injEq, Bool.not_eq_true]
    constructor
    · rintro ⟨unshadowed, rfl, rfl⟩
      exact ⟨rfl, rfl, unshadowed⟩
    · rintro ⟨rfl, rfl, unshadowed⟩
      exact ⟨unshadowed, rfl, rfl⟩

/-- Settles O29: the offset and the angle are those of R107 and R108, and each stage contributes its own tests. -/
theorem sampleIsValidExactlyWhenEveryStagePasses : Obligations.SampleIsValidExactlyWhenEveryStagePasses := by
  intro u h rate cant k rc sector x c q m offset a b
  have offset_eq : cantOffset cant = offset := cantOffset_eq cant
  have angle : trackAngle c k = a := (trackAngle_sampleSetup u h rate cant k).trans (by rw [offset_eq])
  have sector_eq : sampleSector c k = b / 32 := by
    rw [sampleSector, angle, mirrored_eq]; rfl
  refine ⟨angle ▸ trackAngle_lt c k, angle, sector_eq, sector_eq ▸ sampleSector_lt c k, ?_, ?_⟩
  · intro low high
    exact offset_eq ▸ cantOffset_bounds low high
  · have corrected : rc = correctedRange c x.range.toNat ↔
        (rc : Int) = max 0 (min 65535 ((x.range.toNat : Int) + (u.head h).zero)) := by
      rw [← Int.natCast_inj, correctedRange_cast]; rfl
    rw [judgeSample_eq_some_iff, stageRange_eq_some_iff, sector_eq, corrected]
    simp only [and_assoc]
    rfl

/-! ## Stage 5: the state of a sector -/

/-- Table 6-7, first row: a sector without hits has no data. -/
theorem judgeSector_of_no_hits (e margin confirm : Nat) {x : SectorContents} (empty : x.hits = 0) :
    judgeSector e margin confirm x = ⟨.noData, x.hits, x.intrusions, 0⟩ := by
  rw [judgeSector, if_pos empty]

/-- Table 6-7, second row: a sector with data and radius 0 is not checked. -/
theorem judgeSector_of_no_radius (margin confirm : Nat) {x : SectorContents} (data : x.hits ≠ 0) :
    judgeSector 0 margin confirm x = ⟨.unchecked, x.hits, x.intrusions, 0⟩ := by
  rw [judgeSector, if_neg data, if_pos rfl]

/-- Table 6-7, the rows of a checked sector: they differ in the state only, and all give the clearance of R116. -/
theorem judgeSector_of_checked {e m : Nat} (margin confirm : Nat) {x : SectorContents} (data : x.hits ≠ 0) (checked : e ≠ 0)
    (minimum : x.minimum = some m) :
    judgeSector e margin confirm x =
      if confirm ≤ x.intrusions then ⟨.infringe, x.hits, x.intrusions, clearanceOf m e⟩
      else if 1 ≤ x.intrusions then ⟨.suspect, x.hits, x.intrusions, clearanceOf m e⟩
      else if clearanceOf m e < margin then ⟨.warn, x.hits, x.intrusions, clearanceOf m e⟩
      else ⟨.clear, x.hits, x.intrusions, clearanceOf m e⟩ := by
  simp only [judgeSector, if_neg data, if_neg checked, minimum, Option.getD_some,
    apply_ite (SectorResult.mk · x.hits x.intrusions (clearanceOf m e))]

/-- R116: the clearance, clamped to 16 bits with sign. -/
theorem clearanceOf_eq (m e : Nat) : clearanceOf m e = max (-32768) (min 32767 ((m : Int) - e)) :=
  clampInt_eq_max_min (by decide) _

/-- R116: both ends of the clamp lie beyond every margin, so it does not change the comparison with one. -/
theorem clearanceOf_lt_margin_iff {margin : Nat} (inRange : margin ≤ 4095) (m e : Nat) :
    clearanceOf m e < margin ↔ (m : Int) - e < margin := by
  rw [clearanceOf_eq]; omega

/-- Settles O32: the rows of Table 6-7 in order. -/
theorem sectorStateFollowsTheTable : Obligations.SectorStateFollowsTheTable := by
  intro e margin confirm x radiusRange marginRange
  refine ⟨judgeSector_of_no_hits e margin confirm, ?_, ?_⟩
  · rintro data rfl
    exact judgeSector_of_no_radius margin confirm data
  · intro m data checked minimum minimumRange g
    have clearance : clearanceOf m e = g := clearanceOf_eq m e
    rw [← clearance]
    refine ⟨judgeSector_of_checked margin confirm data checked minimum, clearanceOf_lt_margin_iff marginRange m e, ?_, ?_⟩ <;>
      omega

end Sys2Proof.Machine

/-! SUPPORT. Field by field, what the operations that several blocks share leave: an evaluation of the advice, the report of a class, and
the operations that a mask of Laws/Frame.lean speaks of. -/

namespace Sys2Proof.Machine

/-! ## From a mask to the fields -/

/-- The fields outside the latches, the advice, the slices and the store, and of a port everything but its latch. -/
structure SameButSlices (a b : State) : Prop where
  pending : a.pending = b.pending
  timebase : a.timebase = b.timebase
  windowTime : a.windowTime = b.windowTime
  conversionTime : a.conversionTime = b.conversionTime
  nextChannel : a.nextChannel = b.nextChannel
  head1 : a.head1 = b.head1
  head2 : a.head2 = b.head2
  scv : a.scv = b.scv
  chu : a.chu = b.chu
  mku : a.mku = b.mku
  env : a.env = b.env
  locks : a.locks = b.locks
  signals : a.signals = b.signals
  setup : a.setup = b.setup
  freeCount : a.freeCount = b.freeCount
  port : ∀ p, unlatched (a.port p) = unlatched (b.port p)

theorem sameButSlices {a b : State} (masked : slicesMask a = slicesMask b) : SameButSlices a b := by
  have field : ∀ {α : Type} (f : State → α), f (slicesMask a) = f (slicesMask b) := fun f => congrArg f masked
  have port : ∀ p, unlatched (a.port p) = unlatched (b.port p)
    | .p0 => field State.port0
    | .p1 => field State.port1
    | .p2 => field State.port2
  exact
    { pending := field State.pending,
      timebase := field State.timebase,
      windowTime := field State.windowTime,
      conversionTime := field State.conversionTime,
      nextChannel := field State.nextChannel,
      head1 := field State.head1,
      head2 := field State.head2,
      scv := field State.scv,
      chu := field State.chu,
      mku := field State.mku,
      env := field State.env,
      locks := field State.locks,
      signals := field State.signals,
      setup := field State.setup,
      freeCount := field State.freeCount,
      port := port }

namespace SameButSlices

variable {a b : State} (same : SameButSlices a b)
include same

theorem head (h : HeadId) : a.head h = b.head h := by
  cases h with
  | h1 => exact same.head1
  | h2 => exact same.head2

theorem slot (p : PortId) : (a.port p).slot = (b.port p).slot := (congrArg MasterPort.slot (same.port p) :)
theorem link (p : PortId) : (a.port p).link = (b.port p).link := (congrArg MasterPort.link (same.port p) :)
theorem table (p : PortId) : (a.port p).table = (b.port p).table := (congrArg MasterPort.table (same.port p) :)
theorem index (p : PortId) : (a.port p).index = (b.port p).index := (congrArg MasterPort.index (same.port p) :)
theorem sdo (p : PortId) : (a.port p).sdo = (b.port p).sdo := (congrArg MasterPort.sdo (same.port p) :)

theorem waiting (p : PortId) : portWaiting a p = portWaiting b p := by
  rw [portWaiting, portWaiting, same.slot p]

theorem linkUp (p : PortId) : linkUp (a.port p) = linkUp (b.port p) := by
  unfold Sys2Proof.Machine.linkUp; rw [same.link p]

end SameButSlices

/-! ## An evaluation of the advice -/

theorem evaluateAdvice_same (s : State) : SameButSlices (evaluateAdvice s) s := sameButSlices (evaluateAdvice_slices s)

@[simp] theorem evaluateAdvice_pending (s : State) : (evaluateAdvice s).pending = s.pending := (evaluateAdvice_same s).pending
@[simp] theorem evaluateAdvice_timebase (s : State) : (evaluateAdvice s).timebase = s.timebase := (evaluateAdvice_same s).timebase
@[simp] theorem evaluateAdvice_head1 (s : State) : (evaluateAdvice s).head1 = s.head1 := (evaluateAdvice_same s).head1
@[simp] theorem evaluateAdvice_head2 (s : State) : (evaluateAdvice s).head2 = s.head2 := (evaluateAdvice_same s).head2
@[simp] theorem evaluateAdvice_head (s : State) (h : HeadId) : (evaluateAdvice s).head h = s.head h := (evaluateAdvice_same s).head h
@[simp] theorem evaluateAdvice_scv (s : State) : (evaluateAdvice s).scv = s.scv := (evaluateAdvice_same s).scv
@[simp] theorem evaluateAdvice_chu (s : State) : (evaluateAdvice s).chu = s.chu := (evaluateAdvice_same s).chu
@[simp] theorem evaluateAdvice_mku (s : State) : (evaluateAdvice s).mku = s.mku := (evaluateAdvice_same s).mku
@[simp] theorem evaluateAdvice_env (s : State) : (evaluateAdvice s).env = s.env := (evaluateAdvice_same s).env
@[simp] theorem evaluateAdvice_locks (s : State) : (evaluateAdvice s).locks = s.locks := (evaluateAdvice_same s).locks
@[simp] theorem evaluateAdvice_signals (s : State) : (evaluateAdvice s).signals = s.signals := (evaluateAdvice_same s).signals
@[simp] theorem evaluateAdvice_setup (s : State) : (evaluateAdvice s).setup = s.setup := (evaluateAdvice_same s).setup
@[simp] theorem evaluateAdvice_freeCount (s : State) : (evaluateAdvice s).freeCount = s.freeCount :=
  (evaluateAdvice_same s).freeCount

@[simp] theorem evaluateAdvice_slb (s : State) : (evaluateAdvice s).slb = s.slb := by
  unfold evaluateAdvice; split <;> rfl
@[simp] theorem evaluateAdvice_pst (s : State) : (evaluateAdvice s).pst = s.pst := by
  unfold evaluateAdvice; split <;> rfl
@[simp] theorem evaluateAdvice_lastStop (s : State) : (evaluateAdvice s).adv.lastStop = s.adv.lastStop := by
  unfold evaluateAdvice; split <;> rfl
@[simp] theorem evaluateAdvice_slot (s : State) (p : PortId) : ((evaluateAdvice s).port p).slot = (s.port p).slot :=
  (evaluateAdvice_same s).slot p

/-! ## The report of a class -/

theorem reportClass_same (c : SectorState) (stop : Bool) (s : State) : SameButSlices (reportClass c stop s) s :=
  sameButSlices (reportClass_slices c stop s)

@[simp] theorem reportClass_slb (c : SectorState) (stop : Bool) (s : State) : (reportClass c stop s).slb = s.slb := by
  unfold reportClass; split <;> simp
@[simp] theorem reportClass_pst (c : SectorState) (stop : Bool) (s : State) : (reportClass c stop s).pst = s.pst := by
  unfold reportClass; split <;> simp

/-! ## The Store Arbiter -/

@[simp] theorem askCommit_slb (s : State) : (askCommit s).slb = s.slb := by unfold askCommit; split <;> rfl
@[simp] theorem askCommit_adv (s : State) : (askCommit s).adv = s.adv := by unfold askCommit; split <;> rfl
@[simp] theorem askCommit_port (s : State) (p : PortId) : (askCommit s).port p = s.port p := by
  unfold askCommit; split <;> cases p <;> rfl
theorem askCommit_same (s : State) : SameButSlices (askCommit s) s := sameButSlices (askCommit_slices s)

@[simp] theorem retryEvent_slb (s : State) : (retryEvent s).slb = s.slb := by
  unfold retryEvent; split
  · split
    · rfl
    · exact askCommit_slb s
  · split <;> rfl
@[simp] theorem retryEvent_adv (s : State) : (retryEvent s).adv = s.adv := by
  unfold retryEvent; split
  · split
    · rfl
    · exact askCommit_adv s
  · split <;> rfl
@[simp] theorem retryEvent_port (s : State) (p : PortId) : (retryEvent s).port p = s.port p := by
  unfold retryEvent; split
  · split
    · rfl
    · exact askCommit_port s p
  · split <;> cases p <;> rfl
theorem retryEvent_same (s : State) : SameButSlices (retryEvent s) s := sameButSlices (retryEvent_slices s)

/-! ## Closing slices -/

theorem appendPending_slb (x : PendingSlice) (rest : List OpenSlice) (s : State) :
    (appendPending x rest s).slb =
      { s.slb with openSlices := rest, pendingSlices := s.slb.pendingSlices ++ [x], lastClosed := some x.header.index } := by
  unfold appendPending; dsimp only; split <;> simp

theorem closeRearmost_slb {kind : CloseKind} {x : OpenSlice} {rest : List OpenSlice} {s : State}
    (front : s.slb.openSlices = x :: rest) :
    (closeRearmost kind s).slb =
      { s.slb with openSlices := rest, pendingSlices := s.slb.pendingSlices ++ [closedSlice kind s x],
                   lastClosed := some x.header.index } := by
  rw [closeRearmost_cons kind x rest s front, reportClass_slb, appendPending_slb]; rfl

theorem closeRearmost_none {kind : CloseKind} {s : State} (none : s.slb.openSlices = []) : closeRearmost kind s = s := by
  unfold closeRearmost; rw [none]

theorem closeRearmost_same (kind : CloseKind) (s : State) : SameButSlices (closeRearmost kind s) s :=
  sameButSlices (closeRearmost_slices kind s)

/-- A close takes the rearmost open slice from the open part. -/
theorem closeRearmost_openSlices (kind : CloseKind) (s : State) :
    (closeRearmost kind s).slb.openSlices = s.slb.openSlices.tail := by
  cases front : s.slb.openSlices with
  | nil => rw [closeRearmost_none front, front]; rfl
  | cons x rest => rw [closeRearmost_slb front]; rfl

/-- As many closes as there are open slices leave none. -/
theorem closeMany_openSlices (kind : CloseKind) (n : Nat) (s : State) :
    (closeMany kind n s).slb.openSlices = s.slb.openSlices.drop n := by
  induction n generalizing s with
  | zero => rfl
  | succ n ih => rw [closeMany, ih, closeRearmost_openSlices, List.drop_tail]

@[simp] theorem flush_openSlices (s : State) : (flush s).slb.openSlices = [] := by
  rw [flush, closeMany_openSlices, List.drop_length]

theorem flush_same (s : State) : SameButSlices (flush s) s := sameButSlices (flush_slices s)
theorem closeTest_same (s : State) : SameButSlices (closeTest s) s := sameButSlices (closeTest_slices s)
theorem setRun_same (r : RunState) (s : State) : SameButSlices (setRun r s) s := sameButSlices (setRun_slices r s)
theorem segmentBreak_same (s : State) : SameButSlices (segmentBreak s) s := sameButSlices (segmentBreak_slices s)
theorem lockedHeadChange_same (s : State) : SameButSlices (lockedHeadChange s) s := sameButSlices (lockedHeadChange_slices s)

/-- A close leaves the run, its numbers and its direction. -/
theorem closeRearmost_run (kind : CloseKind) (s : State) : (closeRearmost kind s).slb.run = s.slb.run := by
  cases front : s.slb.openSlices with
  | nil => rw [closeRearmost_none front]
  | cons x rest => rw [closeRearmost_slb front]

theorem closeMany_run (kind : CloseKind) (n : Nat) (s : State) : (closeMany kind n s).slb.run = s.slb.run := by
  induction n generalizing s with
  | zero => rfl
  | succ n ih => rw [closeMany, ih, closeRearmost_run]

@[simp] theorem flush_run (s : State) : (flush s).slb.run = s.slb.run := closeMany_run _ _ s

end Sys2Proof.Machine

/-! SUPPORT. What a command can do: every command is a chain of the moves below, each of which leaves every invariant of the part, so an
invariant is proved once for each move and not for each command. A condition of a move is what the invariants need at its place. -/

namespace Sys2Proof.Machine

/-- The inputs of the Advice Unit that the setup holds stand: an entry that is fixed by a run only counts in a run (R156, R178). -/
def sameAdviceSetup (s : State) (u : Setup) : Prop :=
  u.minRevs = s.setup.minRevs ∧ u.vCfg = s.setup.vCfg ∧ u.vCrawl = s.setup.vCrawl ∧ u.storeHigh = s.setup.storeHigh ∧
    u.head1.enable = s.setup.head1.enable ∧ u.head2.enable = s.setup.head2.enable ∧
    (s.slb.run = .idle ∨ u.sliceLength = s.setup.sliceLength)

/-- The inputs of the Advice Unit that a head holds stand (R156, R161). -/
def sameAdviceHead (r q : HeadReceiver) : Prop :=
  (q.state = .locked ↔ r.state = .locked) ∧ (r.state = .locked → q.averagedPeriod = r.averagedPeriod)

/-- One move of the part within a command; a store request that begins to wait is the one thing a command does beside them. -/
inductive Move (s : State) : State → Prop
  /-- what no invariant speaks of -/
  | aside (e : EnvelopeTables) (c : SenseConverter) (w : SignalMask) (a b n : Nat) (ch : Channel) :
      Move s { s with env := e, scv := c, signals := w, windowTime := a, conversionTime := b, nextChannel := ch, freeCount := n }
  /-- the event latches of the ports -/
  | latches (f : PortId → EventMask → EventMask) : Move s (s.mapPorts fun p m => { m with latch := f p m.latch })
  /-- a port whose link stays UP, and whose waiting request ends only if the port does not hold the store -/
  | port (p : PortId) (m : MasterPort) (link : linkUp (s.port p) = true → linkUp m = true)
      (work : portWaiting (s.setPort p m) p = portWaiting s p ∨
        portWaiting (s.setPort p m) p = false ∧ s.pst.holder ≠ .port p) : Move s (s.setPort p m)
  /-- a lock is freed, or taken by a port whose link is UP -/
  | lock (k : Lock) (v : Option PortId) (up : ∀ p, v = some p → linkUp (s.port p) = true) : Move s (setLock k v s)
  /-- a link goes DOWN with its locks freed -/
  | down (p : PortId) : Move s (forcedRelease p (s.setPort p { s.port p with link := .down }))
  /-- the Slice Builder, its run state and its pending slices apart -/
  | slices (b : SliceBuilder) (run : b.run = s.slb.run) (pending : b.pendingSlices = s.slb.pendingSlices)
      (sound : queueSound s.slb → queueSound b) : Move s { s with slb := b }
  /-- the run state -/
  | run (r : RunState) (sound : queueSound s.slb → queueSound { s.slb with run := r }) : Move s (setRun r s)
  /-- the rearmost open slice closes -/
  | close (x : OpenSlice) (rest : List OpenSlice) (c : PendingSlice) (stop : Bool) (front : s.slb.openSlices = x :: rest)
      (index : c.header.index = x.header.index) : Move s (reportClass c.cls stop (appendPending c rest s))
  /-- a run is aborted -/
  | abort (run : s.slb.run ≠ .idle) : Move s (setRun .idle (abandonCommit (discardQueue s)))
  /-- the position, with an evaluation of the advice -/
  | position (c : ChainageUnit) (m : MarkerUnit) (sound : positionSound s → positionSound { s with chu := c, mku := m }) :
      Move s (evaluateAdvice { s with chu := c, mku := m })
  /-- the position at its quality -/
  | track (c : ChainageUnit) (m : MarkerUnit) (quality : c.quality = s.chu.quality)
      (sound : positionSound s → positionSound { s with chu := c, mku := m }) : Move s { s with chu := c, mku := m }
  /-- a head, with an evaluation of the advice -/
  | head (h : HeadId) (r : HeadReceiver) (sound : headSound (s.head h) → headSound r) : Move s (evaluateAdvice (s.setHead h r))
  /-- a head whose advice inputs stand -/
  | count (h : HeadId) (r : HeadReceiver) (inputs : sameAdviceHead (s.head h) r) (sound : headSound (s.head h) → headSound r) :
      Move s (s.setHead h r)
  /-- the setup, with an evaluation of the advice -/
  | setup (u : Setup) (sound : setupSound s.setup → setupSound u) : Move s (evaluateAdvice { s with setup := u })
  /-- a setup entry that is no input of the advice -/
  | entry (u : Setup) (inputs : sameAdviceSetup s u) (sound : setupSound s.setup → setupSound u) : Move s { s with setup := u }
  /-- a cursor -/
  | cursor (p : PortId) (c : Cursor)
      (sound : storeSound s.pst → seqOffset s.pst c.position ≤ fill s.pst) : Move s (setCursorOf p c s)
  /-- a retry event -/
  | retry : Move s (retryEvent s)
  /-- a commit -/
  | commit (x : PendingSlice) (rest : List PendingSlice) (held : s.pst.holder = .commitPath)
      (oldest : s.slb.pendingSlices = x :: rest) : Move s (makeCommit x rest s)
  /-- a refused commit -/
  | refuse (held : s.pst.holder = .commitPath) (some : s.slb.pendingSlices ≠ []) : Move s (refuseCommit s)
  /-- a store request that finds the store free, or was granted it -/
  | serve (p : PortId) (q : StoreRequest) (echo : Byte)
      (granted : storeFree s = true ∨ s.pst.holder = .port p) : Move s (grantAndServe p q echo s)
  /-- CLEAR STOP -/
  | clearStop (p : PortId) : Move s (clearStopLatch p s)
  /-- the soft reset, up to the heads that it powers -/
  | soft : Move s (softValues s)
  /-- the device reset -/
  | device (left right : Phase) : Move s (resetDevice left right s)

/-- A chain of moves. -/
abbrev Moves : State → State → Prop := Relation.ReflTransGen Move

theorem Move.moves {s t : State} (one : Move s t) : Moves s t := .single one

/-- What every move keeps, every chain of moves keeps. -/
theorem Moves.keeps {P : State → Prop} (move : ∀ {s t}, Move s t → P s → P t) {s t : State} (chain : Moves s t) (holds : P s) :
    P t := by
  induction chain with
  | refl => exact holds
  | tail _ one ih => exact move one ih

/-! ## Events, ports and evaluations -/

theorem raiseAll_moves (e : Event) (s : State) : Moves s (raiseAll e s) :=
  (Move.latches fun _ l => latched e l).moves

theorem mapLatches_moves (g : PortId → MasterPort → MasterPort) (f : PortId → EventMask → EventMask) (s : State)
    (only : ∀ p, g p (s.port p) = { s.port p with latch := f p (s.port p).latch }) : Moves s (s.mapPorts g) := by
  have same : s.mapPorts g = s.mapPorts fun p m => { m with latch := f p m.latch } := by
    unfold State.mapPorts
    rw [show g .p0 s.port0 = _ from only .p0, show g .p1 s.port1 = _ from only .p1, show g .p2 s.port2 = _ from only .p2]
    rfl
  rw [same]
  exact (Move.latches f).moves

theorem raiseOthers_moves (e : Event) (p : PortId) (s : State) : Moves s (raiseOthers e p s) :=
  mapLatches_moves _ (fun q l => if q = p then l else latched e l) s fun q => by
    by_cases own : q = p <;> simp [own]

theorem evaluateAdvice_moves (s : State) : Moves s (evaluateAdvice s) := (Move.setup s.setup id).moves

/-- A port whose link and slot stand. -/
theorem setPort_moves {p : PortId} {m : MasterPort} {s : State} (link : linkUp (s.port p) = true → linkUp m = true)
    (slot : m.slot = (s.port p).slot) : Moves s (s.setPort p m) :=
  (Move.port p m link (.inl (by simp [portWaiting, slot]))).moves

/-- A slot without a store request in work stays so, whatever the link. -/
theorem setSlot_moves {p : PortId} {x : Slot} {s : State} (was : portWaiting s p = false)
    (is : portWaiting (setSlot p x s) p = false) : Moves s (setSlot p x s) :=
  (Move.port p { s.port p with slot := x } id (.inl (is.trans was.symm))).moves

theorem afterFrame_moves (p : PortId) (s : State) : Moves s (afterFrame p s) := setPort_moves (fun _ => rfl) rfl

theorem beginTransaction_moves (p : PortId) (s : State) : Moves s (beginTransaction p s) := setPort_moves id rfl

theorem putAnswer_moves {p : PortId} {s : State} (was : portWaiting s p = false) (echo : Byte) (r : Reply) :
    Moves s (putAnswer p echo r s) := by
  apply setSlot_moves was
  simp [portWaiting]

/-! ## Slices -/

theorem closeRearmost_moves (kind : CloseKind) (s : State) : Moves s (closeRearmost kind s) := by
  cases front : s.slb.openSlices with
  | nil => rw [closeRearmost_none front]
  | cons x rest =>
    rw [closeRearmost_cons kind x rest s front]
    exact (Move.close x rest (closedSlice kind s x) _ front rfl).moves

theorem closeMany_moves (kind : CloseKind) (n : Nat) (s : State) : Moves s (closeMany kind n s) := by
  induction n generalizing s with
  | zero => exact .refl
  | succ n ih => exact (closeRearmost_moves kind s).trans (ih _)

theorem flush_moves (s : State) : Moves s (flush s) := closeMany_moves _ _ s

theorem closeTestFrom_moves (n : Nat) (s : State) : Moves s (closeTestFrom n s) := by
  induction n generalizing s with
  | zero => exact .refl
  | succ n ih =>
    unfold closeTestFrom
    split
    · exact .refl
    · split
      · exact (closeRearmost_moves _ s).trans (ih _)
      · exact .refl

/-- The Slice Builder changed outside the queue and the direction. -/
theorem queueSound_congr {a b : SliceBuilder} (run : b.run = a.run) (pending : b.pendingSlices = a.pendingSlices)
    (opened : b.openSlices = a.openSlices) (direction : b.direction = a.direction) (closed : b.lastClosed = a.lastClosed)
    (sound : queueSound a) : queueSound b := by
  simpa only [queueSound, openOrdered, run, pending, opened, direction, closed] using sound

theorem noteTest_moves (s : State) : Moves s (noteTest s) :=
  .single (.slices _ rfl rfl (queueSound_congr rfl rfl rfl rfl rfl))

theorem closeTest_moves (s : State) : Moves s (closeTest s) := by
  unfold closeTest
  split
  · exact .refl
  · exact (closeTestFrom_moves _ s).trans (noteTest_moves _)

/-- With no slice open, the queue is sound in RUNNING, and at the end of a run with the run state that `endRun` chooses. -/
theorem queueSound_of_none_open {a b : SliceBuilder} (sound : queueSound a) (opened : b.openSlices = [])
    (pending : b.pendingSlices = a.pendingSlices) (idle : b.run = .idle → a.pendingSlices = [])
    (draining : b.run = .draining → a.pendingSlices ≠ []) : queueSound b := by
  obtain ⟨_, total, -⟩ := sound
  refine ⟨by simp [opened], ?_, fun r => ⟨opened, pending ▸ idle r⟩, fun r => ⟨opened, pending ▸ draining r⟩, ?_⟩
  · rw [opened, pending]; exact le_trans (by simp) total
  · unfold openOrdered; rw [opened]; split <;> simp

theorem endRun_moves {s : State} (opened : s.slb.openSlices = []) : Moves s (endRun s) := by
  refine .single (.run _ fun sound => queueSound_of_none_open sound opened rfl ?_ ?_) <;>
    cases pending : s.slb.pendingSlices <;> simp [queueEmpty, opened, pending]

/-- The Slice Builder of a new segment, once the open slices are flushed (R79, R80). -/
def startSegment (s : State) : State :=
  markStale { s with slb := { s.slb with
    segment := if s.slb.segment = 65535 then s.slb.segment else s.slb.segment + 1, lastOpened := none, lastClosed := none,
    carriedSkipped := 0, direction := s.chu.direction } }

theorem segmentBreak_of_not_running {s : State} (run : s.slb.run ≠ .running) : segmentBreak s = s := if_neg run

/-- A break in RUNNING: the flush, the new segment, SEGMENT_BREAK, and in the last segment the end of the run. -/
theorem segmentBreak_of_running {s : State} (running : s.slb.run = .running) :
    segmentBreak s =
      if (flush s).slb.segment = 65535 then endRun (raiseAll .segmentBreak (startSegment (flush s)))
      else raiseAll .segmentBreak (startSegment (flush s)) := by
  simp only [segmentBreak, running, if_true, startSegment, decide_eq_true_eq]

theorem startSegment_moves {s : State} (running : s.slb.run = .running) (opened : s.slb.openSlices = []) :
    Moves s (startSegment s) := by
  refine .single (.slices _ rfl rfl fun sound => queueSound_of_none_open sound opened rfl ?_ ?_) <;> simp [running]

theorem segmentBreak_moves (s : State) : Moves s (segmentBreak s) := by
  by_cases running : s.slb.run = .running
  · rw [segmentBreak_of_running running]
    have opened : (flush s).slb.openSlices = [] := flush_openSlices s
    have broken : Moves s (raiseAll .segmentBreak (startSegment (flush s))) :=
      ((flush_moves s).trans (startSegment_moves ((flush_run s).trans running) opened)).trans (raiseAll_moves _ _)
    split
    · exact broken.trans (endRun_moves opened)
    · exact broken
  · rw [segmentBreak_of_not_running running]

theorem reportDirection_moves (d : Direction) (s : State) : Moves s (reportDirection d s) := by
  unfold reportDirection
  split
  · rename_i running
    split
    · rename_i undetermined
      refine .single (.slices _ rfl rfl fun sound => ?_)
      have none : s.slb.openSlices = [] := by
        have ordered := sound.2.2.2.2
        rwa [openOrdered, undetermined] at ordered
      exact queueSound_of_none_open sound none rfl (by simp [running]) (by simp [running])
    · split
      · exact .refl
      · exact segmentBreak_moves s
  · exact .refl

theorem lockedHeadChange_closes_moves (s : State) :
    Moves (evaluateAdvice s) (lockedHeadChange s) := by
  unfold lockedHeadChange
  dsimp only
  split
  · split
    · exact closeTest_moves _
    · exact flush_moves _
  · exact .refl

end Sys2Proof.Machine

/-! SUPPORT. The operations of the Slice Builder on a delivery, and of the Chainage and Marker Units, as moves. -/

namespace Sys2Proof.Machine

/-! ## A delivery -/

theorem countEvents_moves (h : HeadId) (c : CounterClass) (n : Nat) (s : State) : Moves s (countEvents h c n s) := by
  unfold countEvents
  split
  · refine .single (.count h _ ⟨.rfl, fun _ => rfl⟩ fun sound => ?_)
    obtain ⟨settle, attempt, watchdog, revolution, periods, run, failures, -, acquiring, locked⟩ := sound
    exact ⟨settle, attempt, watchdog, revolution, periods, run, failures, Nat.min_le_left _ _, acquiring, locked⟩
  · exact .refl

theorem setStale_moves (h : HeadId) (b : Bool) (s : State) : Moves s (setStale s h b) := by
  cases h <;> exact .single (.slices _ rfl rfl (queueSound_congr rfl rfl rfl rfl rfl))

theorem useFree_moves (s : State) : Moves s (useFree s) :=
  .single (.aside s.env s.scv s.signals s.windowTime s.conversionTime (s.freeCount + 1) s.nextChannel)

theorem settleWrites_moves (s : State) : Moves s (settleWrites s) := by
  unfold settleWrites
  split
  · exact .refl
  · exact .trans (.single (.slices { s.slb with radiusWrites := [] } rfl rfl (queueSound_congr rfl rfl rfl rfl rfl)))
      (useFree_moves _)

/-- Two lists of open slices whose slices have the same indices and directions, in the same places. -/
def sameKeys (xs ys : List OpenSlice) : Prop :=
  xs.map (fun x => (x.header.index, x.header.direction)) = ys.map fun x => (x.header.index, x.header.direction)

/-- The order of the open slices is an order of their keys. -/
theorem openOrdered_iff_keys (b : SliceBuilder) :
    openOrdered b ↔
      let keys := b.openSlices.map fun x => (x.header.index, x.header.direction)
      match b.direction with
      | none => keys = []
      | some d => keys.Pairwise (fun x y => aheadOf d y.1 x.1 = true) ∧ (∀ x ∈ keys, x.2 = d) ∧
          ∀ k, b.lastClosed = some k → ∀ x ∈ keys, aheadOf d x.1 k = true := by
  unfold openOrdered
  cases b.direction with
  | none => simp
  | some d => simp [List.pairwise_map]

/-- A change of the open slices that keeps their keys. -/
theorem queueSound_of_sameKeys {b : SliceBuilder} {xs : List OpenSlice} (keys : sameKeys xs b.openSlices) (sound : queueSound b) :
    queueSound { b with openSlices := xs } := by
  obtain ⟨opened, total, idle, draining, ordered⟩ := sound
  have length : xs.length = b.openSlices.length := by simpa using congrArg List.length keys
  have none : b.openSlices = [] → xs = [] := fun h => List.length_eq_zero_iff.1 (by rw [length, h]; rfl)
  refine ⟨length ▸ opened, length ▸ total, fun r => ⟨none (idle r).1, (idle r).2⟩,
    fun r => ⟨none (draining r).1, (draining r).2⟩, ?_⟩
  rw [openOrdered_iff_keys] at ordered ⊢
  unfold sameKeys at keys
  simpa only [keys] using ordered

theorem openSlices_moves {xs : List OpenSlice} {s : State} (keys : sameKeys xs s.slb.openSlices) :
    Moves s { s with slb := { s.slb with openSlices := xs } } :=
  .single (.slices _ rfl rfl (queueSound_of_sameKeys keys))

theorem mapOpen_moves (f : OpenSlice → OpenSlice) (keys : ∀ x, ((f x).header.index, (f x).header.direction) =
    (x.header.index, x.header.direction)) (s : State) :
    Moves s { s with slb := { s.slb with openSlices := s.slb.openSlices.map f } } :=
  openSlices_moves (by unfold sameKeys; rw [List.map_map]; exact List.map_congr_left fun x _ => keys x)

/-- A binning keeps the index and the direction of the slice. -/
theorem binInto_keys (u : Setup) (e : Nat → EnvelopeTables) (v : Delivery) (x : OpenSlice) :
    ((binInto u e v x).1.header.index, (binInto u e v x).1.header.direction) = (x.header.index, x.header.direction) := by
  unfold binInto
  cases v.head <;> rfl

theorem binAt_keys (u : Setup) (e : Nat → EnvelopeTables) (v : Delivery) (i : Nat) (xs : List OpenSlice) :
    sameKeys (binAt u e v i xs).1 xs := by
  induction xs with
  | nil => rfl
  | cons x xs ih =>
    unfold binAt sameKeys
    split
    · simp only [List.map_cons, binInto_keys]
    · simpa [sameKeys] using ih

theorem binRevolution_moves (v : Delivery) (i : Nat) (s : State) : Moves s (binRevolution v i s) :=
  (((openSlices_moves (binAt_keys _ _ _ _ _)).trans (settleWrites_moves _)).trans (countEvents_moves _ _ _ _)).trans
    (closeTest_moves _)

theorem overrunDiscard_moves (s : State) : Moves s (overrunDiscard s) := by
  have counted : Moves s { s with slb := { s.slb with carriedOverruns := addSat Config.sat16 s.slb.carriedOverruns 1 } } :=
    .single (.slices _ rfl rfl (queueSound_congr rfl rfl rfl rfl rfl))
  unfold overrunDiscard
  dsimp only
  split
  · exact counted.trans (raiseAll_moves _ _)
  · exact counted

/-- Along a direction indices are ordered: what is neither ahead nor at the same place lies behind. -/
theorem aheadOf_of_not_ahead {d : Direction} {i j : Nat} (apart : i ≠ j) (behind : aheadOf d i j = false) :
    aheadOf d j i = true := by
  cases d <;> simp [aheadOf] at behind ⊢ <;> omega

theorem aheadOf_trans {d : Direction} {i j k : Nat} (far : aheadOf d i j = true) (near : aheadOf d j k = true) :
    aheadOf d i k = true := by
  cases d <;> simp [aheadOf] at far near ⊢ <;> omega

theorem aheadOf_asymm {d : Direction} {i j : Nat} (ahead : aheadOf d i j = true) : aheadOf d j i = false := by
  cases d <;> simp [aheadOf] at ahead ⊢ <;> omega

theorem insertOpen_length (d : Direction) (x : OpenSlice) (xs : List OpenSlice) :
    (insertOpen d x xs).length = xs.length + 1 := by
  induction xs with
  | nil => rfl
  | cons y ys ih => unfold insertOpen; split <;> simp [ih]

theorem mem_insertOpen {d : Direction} {x y : OpenSlice} {xs : List OpenSlice} :
    y ∈ insertOpen d x xs ↔ y = x ∨ y ∈ xs := by
  induction xs with
  | nil => simp [insertOpen]
  | cons z zs ih =>
    unfold insertOpen
    split
    · simp only [List.mem_cons, ih]; tauto
    · simp

/-- A slice whose index is not open takes its place in the order (R86). -/
theorem insertOpen_pairwise {d : Direction} {x : OpenSlice} {xs : List OpenSlice}
    (fresh : ∀ y ∈ xs, y.header.index ≠ x.header.index)
    (ordered : xs.Pairwise fun y z => aheadOf d z.header.index y.header.index = true) :
    (insertOpen d x xs).Pairwise fun y z => aheadOf d z.header.index y.header.index = true := by
  induction xs with
  | nil => simp [insertOpen]
  | cons y ys ih =>
    obtain ⟨first, rest⟩ := List.pairwise_cons.1 ordered
    unfold insertOpen
    split
    · rename_i ahead
      refine List.pairwise_cons.2 ⟨fun z inside => ?_, ih (fun z inside => fresh z (.tail _ inside)) rest⟩
      rcases mem_insertOpen.1 inside with rfl | old
      · exact ahead
      · exact first z old
    · rename_i behind
      have before : aheadOf d y.header.index x.header.index = true :=
        aheadOf_of_not_ahead (fresh y (.head _)).symm (by simpa using behind)
      refine List.pairwise_cons.2 ⟨fun z inside => ?_, ordered⟩
      rcases List.mem_cons.1 inside with rfl | old
      · exact before
      · exact aheadOf_trans (first z old) before

/-- What a slice needs to open: the direction is determined in a run, its index is ahead of the last closed one and not open, and the
queue has room (R83). -/
structure CanOpen (d : Direction) (i : Nat) (b : SliceBuilder) : Prop where
  running : b.run = .running
  direction : b.direction = some d
  fresh : ∀ x ∈ b.openSlices, x.header.index ≠ i
  ahead : ∀ k, b.lastClosed = some k → aheadOf d i k = true
  room : b.openSlices.length < Config.openCapacity
  queue : b.openSlices.length + b.pendingSlices.length < Config.queueCapacity

theorem queueSound_openSlice {d : Direction} {i : Nat} {s : State} (can : CanOpen d i s.slb) (sound : queueSound s.slb) :
    queueSound (openSlice d i s).slb := by
  obtain ⟨-, -, -, -, ordered⟩ := sound
  have index : (newSlice s d i).header.index = i := rfl
  rw [openOrdered, can.direction] at ordered
  obtain ⟨sorted, along, closed⟩ := ordered
  refine ⟨?_, ?_, ?_, ?_, ?_⟩
  · have := can.room
    simp only [openSlice, insertOpen_length]; omega
  · have := can.queue
    simp only [openSlice, insertOpen_length]; omega
  · simp [openSlice, can.running]
  · simp [openSlice, can.running]
  · rw [openOrdered, show (openSlice d i s).slb.direction = some d from can.direction]
    refine ⟨insertOpen_pairwise (index ▸ can.fresh) sorted, fun x inside => ?_, fun k last x inside => ?_⟩
    · rcases mem_insertOpen.1 inside with rfl | old
      · rfl
      · exact along x old
    · rcases mem_insertOpen.1 inside with rfl | old
      · exact index ▸ can.ahead k last
      · exact closed k last x old

theorem withEnv_moves (e : EnvelopeTables) (s : State) : Moves s { s with env := e } :=
  .single (.aside e s.scv s.signals s.windowTime s.conversionTime s.freeCount s.nextChannel)

theorem closeForced_moves (s : State) : Moves s (closeForced s) :=
  ((withEnv_moves _ s).trans (closeRearmost_moves _ _)).trans (withEnv_moves s.env _)

/-- The slices that a force close leaves, with the radii at its place. -/
theorem closeForced_slb {x : OpenSlice} {rest : List OpenSlice} {s : State} (front : s.slb.openSlices = x :: rest) :
    (closeForced s).slb =
      { s.slb with openSlices := rest, lastClosed := some x.header.index,
                   pendingSlices := s.slb.pendingSlices ++ [closedSlice .forced { s with env := tablesAt s 0 } x] } :=
  closeRearmost_slb (s := { s with env := tablesAt s 0 }) front

theorem openSlice_moves {d : Direction} {i : Nat} {s : State} (can : queueSound s.slb → CanOpen d i s.slb) :
    Moves s (openSlice d i s) :=
  .single (.slices _ rfl rfl fun sound => queueSound_openSlice (can sound) sound)

/-- The cases of R83 for a revolution in a run whose direction is determined. -/
theorem chooseSlice_moves {v : Delivery} {d : Direction} {s : State} (running : s.slb.run = .running)
    (direction : s.slb.direction = some d) : Moves s (chooseSlice v d s) := by
  unfold chooseSlice
  dsimp only
  split_ifs with opened behind full many rear
  · exact binRevolution_moves _ _ _
  · exact countEvents_moves _ _ _ _
  · exact overrunDiscard_moves _
  · exact countEvents_moves _ _ _ _
  all_goals
    generalize v.headChainage / s.setup.sliceLength = i at *
    have fresh : ∀ x ∈ s.slb.openSlices, x.header.index ≠ i := by simpa [isOpen] using opened
    have ahead : ∀ k, s.slb.lastClosed = some k → aheadOf d i k = true := by
      intro k last; simpa [behindClosed, last] using behind
  · refine .trans (closeForced_moves s) (.trans (openSlice_moves fun _ => ?_) (binRevolution_moves _ _ _))
    cases front : s.slb.openSlices with
    | nil => simp [front, Config.openCapacity] at many
    | cons x rest =>
      rw [front] at fresh full many
      simp only [List.length_cons, Config.openCapacity, Config.queueCapacity] at full many
      rw [behindRearmost, front] at rear
      rw [closeForced_slb front]
      refine ⟨running, direction, fun y inside => fresh y (.tail _ inside), fun k last => ?_, ?_, ?_⟩
      · obtain rfl : x.header.index = k := by simpa using last
        exact aheadOf_of_not_ahead (fresh x (.head _)) (by simpa using rear)
      · simp only [Config.openCapacity]; omega
      · simp only [Config.queueCapacity, List.length_append, List.length_cons, List.length_nil]; omega
  · refine .trans (openSlice_moves fun sound => ?_) (binRevolution_moves _ _ _)
    have bound := sound.1
    exact ⟨running, direction, fresh, ahead, by omega, by omega⟩

theorem deliver_moves (v : Delivery) (s : State) : Moves s (deliver v s) := by
  rcases deliver_cases v s with ⟨-, same⟩ | ⟨-, -, stale⟩ | ⟨-, -, -, same⟩ | ⟨d, running, -, direction, -, chosen⟩
  · rw [same]
  · rw [stale]; exact (countEvents_moves _ _ _ _).trans (setStale_moves _ _ _)
  · rw [same]
  · rw [chosen]; exact chooseSlice_moves running direction

/-! ## The position -/

/-- What the quality, the next expected marker and the counts of misses and slip are part of: the chainage and the table stand. -/
theorem positionSound_congr {s : State} {c : ChainageUnit} {m : MarkerUnit} (chainage : c.chainage = s.chu.chainage)
    (table : m.table = s.mku.table) (sound : positionSound s) : positionSound { s with chu := c, mku := m } := by
  rw [positionSound] at *
  simpa only [chainage, table] using sound

theorem withMarkers_moves {m : MarkerUnit} {s : State} (table : m.table = s.mku.table) : Moves s { s with mku := m } :=
  .single (.track s.chu m rfl (positionSound_congr rfl table))

theorem withChainage_moves {c : ChainageUnit} {s : State} (chainage : c.chainage = s.chu.chainage)
    (quality : c.quality = s.chu.quality) : Moves s { s with chu := c } :=
  .single (.track c s.mku quality (positionSound_congr chainage rfl))

theorem setNext_moves (n : Option Nat) (s : State) : Moves s (setNext n s) := withMarkers_moves rfl

/-- A recomputation sets the next expected marker and nothing else. -/
theorem recomputeNext_eq (s : State) : ∃ n, recomputeNext s = setNext n s := by
  unfold recomputeNext
  split <;> exact ⟨_, rfl⟩

theorem recomputeNext_moves (s : State) : Moves s (recomputeNext s) := by
  obtain ⟨n, same⟩ := recomputeNext_eq s
  exact same ▸ setNext_moves n s

theorem nextAtQuality_eq (q old : Quality) (s : State) : ∃ n, nextAtQuality q old s = setNext n s := by
  unfold nextAtQuality
  split
  · exact ⟨_, rfl⟩
  · split
    · exact recomputeNext_eq s
    · exact ⟨s.mku.nextExpected, rfl⟩

theorem lowerOpenSlices_moves (q : Quality) (s : State) : Moves s (lowerOpenSlices q s) :=
  mapOpen_moves _ (fun _ => by rfl) s

theorem changeQuality_moves (q : Quality) (s : State) : Moves s (changeQuality q s) := by
  unfold changeQuality
  split
  · exact .refl
  · have told : Moves s (evaluateAdvice (nextAtQuality q s.chu.quality (noteQuality q s))) := by
      obtain ⟨n, same⟩ := nextAtQuality_eq q s.chu.quality (noteQuality q s)
      rw [same]
      exact ((raiseAll_moves .qualityChange s).trans (lowerOpenSlices_moves q _)).trans
        (.single (.position { s.chu with quality := q } { s.mku with nextExpected := n } (positionSound_congr rfl rfl)))
    dsimp only
    split
    · exact told.trans (segmentBreak_moves _)
    · exact told

theorem degrade_moves (s : State) : Moves s (degrade s) := by
  unfold degrade
  split
  · exact changeQuality_moves _ _
  · exact changeQuality_moves _ _
  · exact .refl

theorem setEncoder_chainage (c : ChainageUnit) (side : Side) (e : Encoder) : (c.setEncoder side e).chainage = c.chainage := by
  cases side <;> rfl
theorem setEncoder_quality (c : ChainageUnit) (side : Side) (e : Encoder) : (c.setEncoder side e).quality = c.quality := by
  cases side <;> rfl

theorem withEncoder_moves (side : Side) (e : Encoder) (s : State) : Moves s { s with chu := s.chu.setEncoder side e } :=
  withChainage_moves (setEncoder_chainage _ _ _) (setEncoder_quality _ _ _)

theorem failEncoder_moves (side : Side) (s : State) : Moves s (failEncoder side s) := by
  unfold failEncoder
  dsimp only
  refine (withEncoder_moves side { s.chu.encoder side with health := .failed } s).trans ?_
  split
  · exact changeQuality_moves _ _
  · refine .trans ?_ (degrade_moves _)
    split
    · exact withChainage_moves rfl rfl
    · exact .refl

theorem takeTransition_moves (side : Side) (phase : Phase) (s : State) : Moves s (takeTransition side phase s) := by
  unfold takeTransition
  dsimp only
  split
  · exact .refl
  · exact withEncoder_moves _ _ s
  · exact withEncoder_moves _ _ s
  · refine (withEncoder_moves side { s.chu.encoder side with phase := phase, illegal := addSat 8 (s.chu.encoder side).illegal 1 } s).trans ?_
    split
    · exact failEncoder_moves _ _
    · exact .refl

theorem countMiss_moves (d : Direction) (m : Nat) (s : State) : Moves s (countMiss d m s) := by
  unfold countMiss
  dsimp only
  have counted : Moves s (raiseAll .markerMiss { s with mku := { s.mku with
      missCount := addSat 7 s.mku.missCount 1, nextExpected := markerAfter s d m } }) :=
    (withMarkers_moves (by rfl)).trans (raiseAll_moves _ _)
  split
  · exact counted.trans (degrade_moves _)
  · exact counted

theorem missCheckFrom_moves (n : Nat) (s : State) : Moves s (missCheckFrom n s) := by
  induction n generalizing s with
  | zero => exact .refl
  | succ n ih =>
    unfold missCheckFrom
    split
    · split
      · exact (countMiss_moves _ _ s).trans (ih _)
      · exact .refl
    · exact .refl

theorem missCheck_moves (s : State) : Moves s (missCheck s) := missCheckFrom_moves _ s

theorem clampAndMiss_moves (s : State) : Moves s (clampAndMiss s) := by
  unfold clampAndMiss
  split
  · exact (changeQuality_moves _ s).trans (missCheck_moves _)
  · split
    · exact ((useFree_moves s).trans (missCheck_moves _)).trans (changeQuality_moves _ _)
    · exact ((useFree_moves s).trans (changeQuality_moves _ _)).trans (missCheck_moves _)

/-- The clamp of R41 keeps the chainage in range, wherever the window began. -/
theorem fuseChainage_moves (s : State) : Moves s (fuseChainage s) := by
  refine .single (.track _ s.mku rfl fun sound => ⟨?_, sound.2⟩)
  dsimp only
  rw [clampInt_eq_max_min (by decide)]
  omega

theorem windowFusion_moves (s : State) : Moves s (windowFusion s) := by
  unfold windowFusion
  split
  · exact (fuseChainage_moves s).trans (clampAndMiss_moves _)
  · exact (fuseChainage_moves s).trans (missCheck_moves _)

theorem setDirection_moves (e : Direction) (s : State) : Moves s (setDirection e s) :=
  ((withChainage_moves (by rfl) (by rfl)).trans (recomputeNext_moves _)).trans (reportDirection_moves _ _)

theorem windowDirection_moves (d : Int) (s : State) : Moves s (windowDirection d s) := by
  unfold windowDirection
  split
  · dsimp only
    split
    · exact setDirection_moves _ _
    · exact withChainage_moves rfl rfl
  · split_ifs
    · exact .refl
    · exact withChainage_moves rfl rfl
    · exact setDirection_moves _ _
    · exact withChainage_moves rfl rfl

theorem slipCheck_moves (s : State) : Moves s (slipCheck s) := by
  unfold slipCheck
  dsimp only
  have checked : ∀ found, Moves s (clearSlip { s with chu := { s.chu with slip := found } }) :=
    fun _ => withChainage_moves rfl rfl
  split
  · exact (checked _).trans (degrade_moves _)
  · exact checked _

theorem windowTravel_moves (d : Int) (s : State) : Moves s (windowTravel d s) := by
  unfold windowTravel
  dsimp only
  split
  · exact withChainage_moves rfl rfl
  · split
    · exact .trans (withChainage_moves (by rfl) (by rfl)) (slipCheck_moves _)
    · exact withChainage_moves rfl rfl

theorem windowHold_moves (s : State) : Moves s (windowHold s) := by
  unfold windowHold
  split
  · exact changeQuality_moves _ _
  · exact .refl

theorem takeWindowEnd_moves (s : State) : Moves s (takeWindowEnd s) := by
  have speed : ∀ d t, Moves t (windowSpeed d t) := fun _ _ => withChainage_moves rfl rfl
  have clear : ∀ t, Moves t (windowClear t) := fun _ => withChainage_moves rfl rfl
  exact ((((((windowFusion_moves s).trans (speed _ _)).trans (windowDirection_moves _ _)).trans
    (windowTravel_moves _ _)).trans (windowHold_moves _)).trans (clear _)).trans (closeTest_moves _)

theorem setChainageTo_moves {mm : Nat} (range : mm ≤ Config.maxMm) (s : State) : Moves s (setChainageTo mm s) := by
  have placed : Moves s (placeChainage mm s) :=
    .single (.track _ _ rfl fun sound => ⟨show mm * 1000 ≤ Config.maxUm by unfold Config.maxMm Config.maxUm at *; omega, sound.2⟩)
  exact ((placed.trans (changeQuality_moves _ _)).trans (recomputeNext_moves _)).trans (segmentBreak_moves _)

/-! ## Captures -/

theorem logCapture_moves (r : Capture) (s : State) : Moves s (logCapture r s) :=
  (withMarkers_moves (by rfl)).trans (raiseAll_moves _ _)

/-- The nearest marker is one of the list, or the best found before it. -/
theorem nearestFrom_mem {c : Nat} {es : List MarkerEntry} {i j : Nat} {e : MarkerEntry} {best : Option (Nat × MarkerEntry)}
    (found : nearestFrom c i es best = some (j, e)) : e ∈ es ∨ best = some (j, e) := by
  induction es generalizing i best with
  | nil => exact .inr found
  | cons x xs ih =>
    unfold nearestFrom at found
    rcases ih found with inside | chosen
    · exact .inl (.tail _ inside)
    · split at chosen
      · split at chosen
        · simp only [Option.some.injEq, Prod.mk.injEq] at chosen
          exact .inl (chosen.2 ▸ .head _)
        · split at chosen
          · simp only [Option.some.injEq, Prod.mk.injEq] at chosen
            exact .inl (chosen.2 ▸ .head _)
          · exact .inr chosen
      · exact .inr chosen

theorem matchedMarker_mem {s : State} {c m : Nat} {e : MarkerEntry} (found : matchedMarker s c = some (m, e)) :
    e ∈ s.mku.table.toList := by
  unfold matchedMarker at found
  split at found
  · simp at found
  · rename_i i f nearest
    split at found
    · simp only [Option.some.injEq, Prod.mk.injEq] at found
      obtain ⟨rfl, rfl⟩ := found
      exact (nearestFrom_mem nearest).resolve_right (by simp)
    · simp at found

theorem applyRing_moves {m : Nat} {e : MarkerEntry} {jump : Bool} {s : State} (inside : e ∈ s.mku.table.toList) :
    Moves s (applyRing m e jump s) := by
  have snapped : Moves s (takeSnap e.surveyed s) := by
    refine .trans (.single (.track { s.chu with chainage := e.surveyed * 1000, remainder := 0, travel := 0 } s.mku rfl
      fun sound => ⟨?_, sound.2⟩)) (changeQuality_moves _ _)
    have range := sound.2 e inside
    show e.surveyed * 1000 ≤ Config.maxUm
    unfold Config.maxMm Config.maxUm at *
    omega
  have matched : Moves s (afterMatch m (takeSnap e.surveyed s)) := snapped.trans (withMarkers_moves (by rfl))
  unfold applyRing
  dsimp only
  split
  · exact matched.trans (segmentBreak_moves _)
  · exact (matched.trans (mapOpen_moves _ (fun _ => by rfl) _)).trans (closeTest_moves _)

theorem takeCapture_moves (s : State) : Moves s (takeCapture s) := by
  unfold takeCapture
  dsimp only
  split
  · exact logCapture_moves _ _
  · exact logCapture_moves _ _
  · split
    · exact logCapture_moves _ _
    · split
      · exact logCapture_moves _ _
      · rename_i m e found
        split
        · exact .trans (b := afterMatch m s) (withMarkers_moves (by rfl)) (logCapture_moves _ _)
        · exact (applyRing_moves (matchedMarker_mem found)).trans (logCapture_moves _ _)

theorem takeEdge_moves (s : State) : Moves s (takeEdge s) := by
  unfold takeEdge
  split
  · exact withMarkers_moves rfl
  · exact .trans (withMarkers_moves (by rfl)) (takeCapture_moves _)

end Sys2Proof.Machine

/-! SUPPORT. The Head Receivers as moves: entries to a state, training, revolutions and timers. -/

namespace Sys2Proof.Machine

/-! ## Entering a state -/

/-- Table 1-9: the timers of a head that enters a state are those of the state; what else a sound head holds is named here. -/
theorem headSound_inState {dest : HeadState} {r : HeadReceiver}
    (revolution : r.openRev.isSome = true → dest = .acquiring ∨ dest = .locked) (periods : r.periods.length ≤ 4)
    (rejections : r.rejectionRun ≤ 2) (failures : r.trainFailures ≤ 6) (counter : r.counter ≤ Config.sat8)
    (acquiring : dest = .acquiring → r.periods.length ≤ 3) (locked : dest = .locked → r.averagedPeriod.isSome = true) :
    headSound (inState dest r) := by
  refine ⟨?_, ?_, ?_, revolution, periods, rejections, failures, counter, acquiring, locked⟩ <;>
    simp only [inState] <;> split <;> simp [*]

theorem raiseAll_setHead (e : Event) (s : State) (h : HeadId) (r : HeadReceiver) :
    raiseAll e (s.setHead h r) = (raiseAll e s).setHead h r := by cases h <;> rfl

/-- The head of `enterState`, whatever the entry leads to in other blocks. -/
theorem enterState_head (h : HeadId) (dest : HeadState) (s : State) (g : HeadId) :
    (enterState h dest s).head g = if g = h then inState dest (s.head h) else s.head g := by
  unfold enterState
  dsimp only
  split
  · split <;> simp [setHead_head, withTimers_state_eq_inState]
  · rw [(lockedHeadChange_same _).head]
    split <;> simp [setHead_head, withTimers_state_eq_inState]

/-- A head enters a state with values `r` of its own: one move where the set of LOCKED heads stands, and otherwise the moves of
R94 behind it. -/
theorem enterState_moves {h : HeadId} {dest : HeadState} {r : HeadReceiver} {s : State} (source : r.state = (s.head h).state)
    (period : dest = .locked → r.averagedPeriod = (s.head h).averagedPeriod ∨ r.state ≠ .locked)
    (sound : headSound (s.head h) → headSound (inState dest r)) : Moves s (enterState h dest (s.setHead h r)) := by
  unfold enterState
  simp only [setHead_head_self, setHead_setHead, withTimers_state_eq_inState, raiseAll_setHead]
  split
  · rename_i lock
    have inputs : sameAdviceHead (s.head h) (inState dest r) := by
      have locks : r.state = .locked ↔ dest = .locked := by simpa using lock
      refine ⟨(source ▸ locks).symm, fun wasLocked => ?_⟩
      exact (period (locks.1 (source ▸ wasLocked))).resolve_right (by simp [source, wasLocked])
    split
    · exact .single (.count h _ inputs sound)
    · exact (raiseAll_moves .headState s).trans (.single (.count h _ (by simpa using inputs) (by simpa using sound)))
  · split
    · exact .trans (.single (.head h _ sound)) (lockedHeadChange_closes_moves _)
    · exact .trans ((raiseAll_moves .headState s).trans (.single (.head h _ (by simpa using sound))))
        (lockedHeadChange_closes_moves _)

theorem dropRevolution_moves (h : HeadId) (s : State) : Moves s (dropRevolution h s) := by
  refine .single (.count h _ ⟨.rfl, fun _ => rfl⟩ fun sound => ?_)
  obtain ⟨settle, attempt, watchdog, -, rest⟩ := sound
  exact ⟨settle, attempt, watchdog, by simp, rest⟩

theorem enterPowering_moves (h : HeadId) (s : State) : Moves s (enterPowering h s) := by
  have entered : enterPowering h s = enterState h .powering
      (s.setHead h (poweringValues (s.setup.head h).maxRate { s.head h with openRev := none })) := by
    simp [enterPowering, dropRevolution]
  rw [entered]
  refine enterState_moves rfl (by simp) fun sound => ?_
  obtain ⟨-, -, -, -, -, -, -, counter, -, -⟩ := sound
  exact headSound_inState (by simp [poweringValues]) (by simp [poweringValues]) (by simp [poweringValues])
    (by simp [poweringValues]) counter (by simp) (by simp)

theorem enterOff_moves (h : HeadId) (s : State) : Moves s (enterOff h s) := by
  refine enterState_moves rfl (by simp) fun sound => ?_
  obtain ⟨-, -, -, -, periods, rejections, failures, counter, -, -⟩ := sound
  exact headSound_inState (by simp) periods rejections failures counter (by simp) (by simp)

theorem enterFaulted_moves (h : HeadId) (cause : FaultCause) (s : State) : Moves s (enterFaulted h cause s) := by
  have entered : enterFaulted h cause s =
      enterState h .faulted (s.setHead h { s.head h with openRev := none, faultCause := cause }) := by
    simp [enterFaulted, dropRevolution]
  rw [entered]
  refine enterState_moves rfl (by simp) fun sound => ?_
  obtain ⟨-, -, -, -, periods, rejections, failures, counter, -, -⟩ := sound
  exact headSound_inState (by simp) periods rejections failures counter (by simp) (by simp)

theorem sendTrain_moves {h : HeadId} {s : State} (training : (s.head h).state = .training) : Moves s (sendTrain h s) := by
  refine .single (.count h _ ⟨.rfl, fun _ => rfl⟩ fun sound => ?_)
  obtain ⟨settle, -, rest⟩ := sound
  exact ⟨settle, by simp [training], rest⟩

/-- An entry to TRAINING; no revolution is open by then. -/
theorem enterTraining_moves {h : HeadId} {s : State} (closed : headSound (s.head h) → (s.head h).openRev = none) :
    Moves s (enterTraining h s) := by
  have entered : Moves s (enterState h .training (s.setHead h (s.head h))) := by
    refine enterState_moves rfl (by simp) fun sound => ?_
    have none := closed sound
    obtain ⟨-, -, -, -, periods, rejections, failures, counter, -, -⟩ := sound
    exact headSound_inState (by simp [none]) periods rejections failures counter (by simp) (by simp)
  rw [setHead_same] at entered
  exact entered.trans (sendTrain_moves (by rw [enterState_head, if_pos rfl]; rfl))

theorem enterAcquiring_moves (h : HeadId) (s : State) : Moves s (enterAcquiring h s) := by
  refine enterState_moves rfl (by simp) fun sound => ?_
  obtain ⟨-, -, -, -, -, -, failures, counter, -, -⟩ := sound
  exact headSound_inState (by simp) (by simp [acquiringValues]) (by simp [acquiringValues]) failures counter
    (by simp [acquiringValues]) (by simp)

theorem trainingSuccess_moves (h : HeadId) (s : State) : Moves s (trainingSuccess h s) := by
  refine .trans (.single (.count h { s.head h with trainFailures := 0 } ⟨.rfl, fun _ => rfl⟩ fun sound => ?_))
    (enterAcquiring_moves h _)
  obtain ⟨settle, attempt, watchdog, revolution, periods, rejections, -, rest⟩ := sound
  exact ⟨settle, attempt, watchdog, revolution, periods, rejections, Nat.zero_le _, rest⟩

/-- A new count of failures in range, and another rate, of a head that goes on. -/
theorem retrain_moves {h : HeadId} {rate : Rate} {n : Nat} {s : State}
    (range : (s.head h).trainFailures ≤ 6 → n ≤ 6) :
    Moves s (s.setHead h { s.head h with rate := rate, trainFailures := n }) := by
  refine .single (.count h _ ⟨.rfl, fun _ => rfl⟩ fun sound => ?_)
  obtain ⟨settle, attempt, watchdog, revolution, periods, rejections, failures, rest⟩ := sound
  exact ⟨settle, attempt, watchdog, revolution, periods, rejections, range failures, rest⟩

theorem trainingFailure_moves {h : HeadId} {s : State} (training : (s.head h).state = .training) :
    Moves s (trainingFailure h s) := by
  unfold trainingFailure
  dsimp only
  refine (countEvents_moves h .trainFailures 1 s).trans ?_
  have still : ((countEvents h .trainFailures 1 s).head h).state = .training := by
    rw [countEvents_one, setHead_head_self, counted_state, training]
  generalize countEvents h .trainFailures 1 s = a at still
  split_ifs with slower fault
  · refine ((retrain_moves fun _ => Nat.zero_le _).trans (raiseAll_moves .headState _)).trans (sendTrain_moves ?_)
    simpa using still
  · exact (retrain_moves fun _ => Nat.zero_le _).trans (enterFaulted_moves _ _ _)
  · refine (retrain_moves fun _ => ?_).trans (sendTrain_moves ?_)
    · omega
    · simpa using still

/-! ## Revolutions -/

theorem rejectRevolution_moves (h : HeadId) (s : State) : Moves s (rejectRevolution h s) := by
  unfold rejectRevolution
  dsimp only
  refine (countEvents_moves h .rejected 1 s).trans ?_
  generalize countEvents h .rejected 1 s = a
  split
  · refine .single (.count h _ ⟨.rfl, fun _ => rfl⟩ fun sound => ?_)
    obtain ⟨settle, attempt, watchdog, revolution, -, rejections, failures, counter, -, locked⟩ := sound
    exact ⟨settle, attempt, watchdog, revolution, by simp, rejections, failures, counter, by simp, locked⟩
  · rename_i locked
    split
    · have entered : enterAcquiring h (a.setHead h { a.head h with rejectionRun := (a.head h).rejectionRun + 1 }) =
          enterState h .acquiring (a.setHead h (acquiringValues (a.head h))) := by
        simp [enterAcquiring, acquiringValues]
      rw [entered]
      exact enterAcquiring_moves h a
    · rename_i more
      refine .single (.count h _ ⟨.rfl, fun _ => rfl⟩ fun sound => ?_)
      obtain ⟨settle, attempt, watchdog, revolution, periods, rejections, rest⟩ := sound
      exact ⟨settle, attempt, watchdog, revolution, periods, by dsimp only; omega, rest⟩
  · exact .refl

/-- The head handles revolutions exactly in ACQUIRING and LOCKED (Table 1-9). -/
theorem handlesRevolutions_iff (s : State) (h : HeadId) :
    handlesRevolutions s h = true ↔ (s.head h).state = .acquiring ∨ (s.head h).state = .locked := by
  unfold handlesRevolutions
  cases (s.head h).state <;> simp

theorem handlesRevolutions_eq_false (s : State) (h : HeadId) :
    handlesRevolutions s h = false ↔ (s.head h).state ≠ .acquiring ∧ (s.head h).state ≠ .locked := by
  rw [← Bool.not_eq_true, handlesRevolutions_iff, not_or]

/-- A head that has a revolution rejected is in ACQUIRING or LOCKED as before. -/
theorem rejectRevolution_handles {h : HeadId} {s : State} (handles : handlesRevolutions s h = true) :
    handlesRevolutions (rejectRevolution h s) h = true := by
  rw [handlesRevolutions_iff] at handles ⊢
  have still : ((countEvents h .rejected 1 s).head h).state = (s.head h).state := by
    rw [countEvents_one, setHead_head_self, counted_state]
  unfold rejectRevolution
  dsimp only
  rw [still]
  rcases handles with acquiring | locked
  · rw [acquiring]; simp
  · rw [locked]
    dsimp only
    split
    · left; rw [enterAcquiring, enterState_head, if_pos rfl]; rfl
    · right; simp

theorem takeRevStart_moves (h : HeadId) (number : BitVec 16) (code : Byte) (s : State) :
    Moves s (takeRevStart h number code s) := by
  unfold takeRevStart
  split
  · rename_i handles
    rw [handlesRevolutions_iff] at handles
    dsimp only
    have restarted : Moves s (s.setHead h { s.head h with watchdog := some Config.watchdogUs }) := by
      refine .single (.count h _ ⟨.rfl, fun _ => rfl⟩ fun sound => ?_)
      obtain ⟨settle, attempt, -, rest⟩ := sound
      exact ⟨settle, attempt, by simp [handles], rest⟩
    have opens : ∀ {b : State} (r : OpenRevolution), handlesRevolutions b h = true →
        Moves b (b.setHead h { b.head h with openRev := some r }) := by
      intro b r still
      refine .single (.count h _ ⟨.rfl, fun _ => rfl⟩ fun sound => ?_)
      obtain ⟨settle, attempt, watchdog, -, rest⟩ := sound
      exact ⟨settle, attempt, watchdog, fun _ => (handlesRevolutions_iff b h).1 still, rest⟩
    refine restarted.trans ?_
    have still : handlesRevolutions (s.setHead h { s.head h with watchdog := some Config.watchdogUs }) h = true := by
      rw [handlesRevolutions_iff]; simpa using handles
    generalize s.setHead h { s.head h with watchdog := some Config.watchdogUs } = a at still
    split
    · refine .trans ((dropRevolution_moves h a).trans (rejectRevolution_moves h _)) (.trans (opens _ ?_) (setStale_moves _ _ _))
      apply rejectRevolution_handles
      rw [handlesRevolutions_iff] at still ⊢
      simpa [dropRevolution] using still
    · exact (opens _ still).trans (setStale_moves _ _ _)
  · exact .refl

theorem takeSampleBlock_moves (h : HeadId) (block : Byte) (samples : Vector Sample 64) (s : State) :
    Moves s (takeSampleBlock h block samples s) := by
  unfold takeSampleBlock
  split
  · rename_i handles
    split
    · exact .refl
    · refine .single (.count h _ ⟨.rfl, fun _ => rfl⟩ fun sound => ?_)
      obtain ⟨settle, attempt, watchdog, -, rest⟩ := sound
      exact ⟨settle, attempt, watchdog, fun _ => (handlesRevolutions_iff s h).1 handles, rest⟩
  · exact .refl

theorem rememberRevolution_moves (h : HeadId) (r : OpenRevolution) (s : State) : Moves s (rememberRevolution h r s) :=
  .single (.count h _ ⟨.rfl, fun _ => rfl⟩ id)

theorem settleTest_moves (r : OpenRevolution) (s : State) : Moves s (settleTest r s) := by
  unfold settleTest
  split
  · exact closeTest_moves s
  · exact .refl

theorem settleMark_moves (h : HeadId) (r : OpenRevolution) (s : State) : Moves s (settleMark h r s) := by
  unfold settleMark
  split
  · exact setStale_moves _ _ _
  · exact .refl

theorem acceptLocked_moves (h : HeadId) (r : OpenRevolution) (s : State) : Moves s (acceptLocked h r s) := by
  have cleared : Moves s (s.setHead h { s.head h with rejectionRun := 0 }) := by
    refine .single (.count h _ ⟨.rfl, fun _ => rfl⟩ fun sound => ?_)
    obtain ⟨settle, attempt, watchdog, revolution, periods, -, rest⟩ := sound
    exact ⟨settle, attempt, watchdog, revolution, periods, Nat.zero_le _, rest⟩
  exact ((cleared.trans (settleTest_moves r _)).trans (settleMark_moves h r _)).trans (deliver_moves _ _)

theorem appendPeriod_length (p : Nat) (ps : List Nat) :
    (appendPeriod p ps).length = if ps.length < 4 then ps.length + 1 else ps.length := by
  unfold appendPeriod
  split
  · simp
  · simp only [List.length_append, List.length_drop, List.length_cons, List.length_nil]; omega

/-- A period of a LOCKED head is an input of the advice from the fourth on (R16, R156). -/
theorem takePeriod_locked_moves {h : HeadId} {p : Nat} {s : State} (locked : (s.head h).state = .locked) :
    Moves s (if ((takePeriod h p s).head h).periods.length = 4 then evaluateAdvice (takePeriod h p s) else takePeriod h p s) := by
  have sound : headSound (s.head h) → headSound { s.head h with
      periods := appendPeriod p (s.head h).periods,
      averagedPeriod := averageOf (appendPeriod p (s.head h).periods) (s.head h).averagedPeriod } := fun sound => by
    obtain ⟨settle, attempt, watchdog, revolution, periods, rejections, failures, counter, -, period⟩ := sound
    refine ⟨settle, attempt, watchdog, revolution, ?_, rejections, failures, counter, by simp [locked], fun _ => ?_⟩
    · rw [appendPeriod_length]; split <;> omega
    · unfold averageOf; split
      · rfl
      · exact period locked
  have periods : ((takePeriod h p s).head h).periods = appendPeriod p (s.head h).periods := by simp [takePeriod]
  rw [periods]
  split
  · exact .single (.head h _ sound)
  · rename_i short
    exact .single (.count h _ ⟨.rfl, fun _ => if_neg short⟩ sound)

/-- A period of a head that is not LOCKED: the fourth takes it to LOCKED (R17). -/
theorem takePeriod_gain_moves {h : HeadId} {p : Nat} {s : State} (free : (s.head h).state ≠ .locked) :
    Moves s (lockGain h (takePeriod h p s)) := by
  unfold lockGain
  split
  · rename_i four
    have entered : (takePeriod h p s).setHead h { (takePeriod h p s).head h with rejectionRun := 0 } =
        s.setHead h { (takePeriod h p s).head h with rejectionRun := 0 } := by simp [takePeriod]
    rw [entered]
    refine enterState_moves (by simp [takePeriod]) (fun _ => .inr (by simpa [takePeriod] using free)) fun sound => ?_
    obtain ⟨-, -, -, -, -, -, failures, counter, -, -⟩ := sound
    refine headSound_inState (by simp) four.le (by simp) (by simpa [takePeriod] using failures)
      (by simpa [takePeriod] using counter) (by simp) fun _ => ?_
    rw [takePeriod, setHead_head_self] at four ⊢
    simp [averageOf, show (appendPeriod p (s.head h).periods).length = 4 from four]
  · rename_i short
    rw [takePeriod, setHead_head_self] at short
    refine .single (.count h _ ⟨.rfl, fun locked => absurd locked free⟩ fun sound => ?_)
    obtain ⟨settle, attempt, watchdog, revolution, periods, rejections, failures, counter, -, -⟩ := sound
    have bound : (appendPeriod p (s.head h).periods).length ≤ 4 := by
      rw [appendPeriod_length]; split <;> omega
    refine ⟨settle, attempt, watchdog, revolution, bound, rejections, failures, counter, fun _ => ?_,
      fun locked => absurd locked free⟩
    dsimp only at short ⊢
    omega

theorem judgeClosed_moves (h : HeadId) (r : OpenRevolution) (s : State) : Moves s (judgeClosed h r s) := by
  have accept : ∀ a, Moves a (if headLocked s h then acceptLocked h r a else a) := by
    intro a
    split
    · exact acceptLocked_moves h r a
    · exact .refl
  unfold judgeClosed
  dsimp only
  split
  · exact rejectRevolution_moves h s
  · exact (rememberRevolution_moves h r s).trans (accept _)
  · refine ((rememberRevolution_moves h r s).trans (countEvents_moves h .gap 1 _)).trans (.trans ?_ (accept _))
    refine .single (.count h _ ⟨.rfl, fun _ => rfl⟩ fun sound => ?_)
    obtain ⟨settle, attempt, watchdog, revolution, -, rejections, failures, counter, -, locked⟩ := sound
    exact ⟨settle, attempt, watchdog, revolution, by simp, rejections, failures, counter, by simp, locked⟩
  · refine (rememberRevolution_moves h r s).trans ?_
    have state : ((rememberRevolution h r s).head h).state = (s.head h).state := by simp [rememberRevolution]
    split
    · rename_i locked
      exact (takePeriod_locked_moves (state.trans (by simpa [headLocked] using locked))).trans (acceptLocked_moves _ _ _)
    · rename_i free
      exact takePeriod_gain_moves (by rw [state]; simpa [headLocked] using free)

theorem takeRevEnd_moves (h : HeadId) (number count : BitVec 16) (s : State) : Moves s (takeRevEnd h number count s) := by
  unfold takeRevEnd
  split
  · split
    · exact .refl
    · dsimp only
      refine (dropRevolution_moves h s).trans ?_
      split
      · exact rejectRevolution_moves _ _
      · exact judgeClosed_moves _ _ _
  · exact .refl

/-! ## Frames and timers -/

theorem takeTrainAck_moves (h : HeadId) (code : Byte) (s : State) : Moves s (takeTrainAck h code s) := by
  unfold takeTrainAck
  split
  · rename_i training
    split
    · exact trainingSuccess_moves _ _
    · exact trainingFailure_moves training
  · exact .refl

theorem dropFrame_moves (h : HeadId) (s : State) : Moves s (dropFrame h s) := by
  unfold dropFrame
  split
  · rename_i training
    refine (countEvents_moves _ _ _ _).trans (trainingFailure_moves ?_)
    rw [countEvents_one, setHead_head_self, counted_state, training]
  · exact countEvents_moves _ _ _ _
  · exact countEvents_moves _ _ _ _
  · exact .refl

theorem settleExpires_moves (h : HeadId) (s : State) : Moves s (settleExpires h s) := by
  unfold settleExpires
  split
  · rename_i powering
    split_ifs
    · exact enterFaulted_moves _ _ _
    · exact enterFaulted_moves _ _ _
    · refine enterTraining_moves fun sound => ?_
      obtain ⟨-, -, -, revolution, -⟩ := sound
      simpa [powering] using revolution
  · exact .refl

theorem attemptExpires_moves (h : HeadId) (s : State) : Moves s (attemptExpires h s) := by
  unfold attemptExpires
  split
  · rename_i training
    exact trainingFailure_moves training
  · exact .refl

theorem watchdogExpires_moves (h : HeadId) (s : State) : Moves s (watchdogExpires h s) := by
  unfold watchdogExpires
  split
  · dsimp only
    split
    · refine ((dropRevolution_moves h s).trans (countEvents_moves h .rejected 1 _)).trans (enterTraining_moves fun _ => ?_)
      rw [countEvents_one, setHead_head_self, counted_openRev]
      simp [dropRevolution]
    · rename_i none
      exact enterTraining_moves fun _ => by simpa using none
  · exact .refl

/-! ## Conversions -/

theorem withSense_moves (c : SenseConverter) (s : State) : Moves s { s with scv := c } :=
  .single (.aside s.env c s.signals s.windowTime s.conversionTime s.freeCount s.nextChannel)

theorem reportSupply_moves (h : HeadId) (c : SupplyState) (s : State) : Moves s (reportSupply h c s) := by
  unfold reportSupply
  split
  · exact enterFaulted_moves _ _ _
  · exact .refl

theorem reportLine_moves (h : HeadId) (c : LineClass) (s : State) : Moves s (reportLine h c s) := by
  unfold reportLine
  split
  · exact enterFaulted_moves _ _ _
  · exact .refl

theorem convert_moves (ch : Channel) (raw : BitVec 12) (s : State) : Moves s (convert ch raw s) := by
  cases ch with
  | cant =>
    simp only [convert, convertCant]
    split
    · exact (withSense_moves _ s).trans (raiseAll_moves _ _)
    · exact withSense_moves _ s
  | supply h =>
    simp only [convert, convertSupply]
    split
    · exact withSense_moves _ s
    · exact ((withSense_moves _ s).trans (raiseAll_moves _ _)).trans (reportSupply_moves _ _ _)
  | line h =>
    simp only [convert, convertLine]
    split
    · exact withSense_moves _ s
    · exact ((withSense_moves _ s).trans (raiseAll_moves _ _)).trans (reportLine_moves _ _ _)

theorem takeConversion_moves (ch : Channel) (raw : BitVec 12) (s : State) : Moves s (takeConversion ch raw s) :=
  .trans (.single (.aside s.env s.scv s.signals s.windowTime 0 s.freeCount (channelAfter ch))) (convert_moves _ _ _)

end Sys2Proof.Machine

/-! SUPPORT. The Lock Table, the links, the tables and the Profile Store as moves. -/

namespace Sys2Proof.Machine

/-! ## Locks and links -/

theorem freeLock_moves (k : Lock) (s : State) : Moves s (setLock k none s) := .single (.lock k none (by simp))

theorem takeLockOf_moves {p : PortId} {k : Lock} {s : State} (up : linkUp (s.port p) = true) :
    Moves s (takeLockOf p k s).1 := by
  unfold takeLockOf
  split
  · refine .trans (.single (.lock k (some p) (by rintro q ⟨⟩; exact up))) ?_
    cases k with
    | envelope => exact mapOpen_moves _ (fun _ => by rfl) _
    | markers => exact setNext_moves none _
    | setup => exact .refl
  · split <;> exact .refl

theorem giveLockOf_moves (p : PortId) (k : Lock) (s : State) : Moves s (giveLockOf p k s).1 := by
  unfold giveLockOf
  split
  · split
    · exact .refl
    · refine (freeLock_moves k s).trans ?_
      cases k with
      | envelope => exact withEnv_moves _ _
      | markers => exact .trans (withMarkers_moves (by rfl)) (recomputeNext_moves _)
      | setup => exact .refl
  · exact .refl

theorem suspendMarkers_moves (s : State) : Moves s (suspendMarkers s) := by
  unfold suspendMarkers
  split
  · exact withMarkers_moves (by rfl)
  · exact .refl

theorem suspendZones_moves (s : State) : Moves s (suspendZones s) := by
  unfold suspendZones
  split
  · exact withEnv_moves _ s
  · exact .refl

theorem forceLock_moves (p : PortId) (k : Lock) (s : State) : Moves s (forceLock p k s) := by
  unfold forceLock
  split
  · refine (freeLock_moves k s).trans ?_
    cases k with
    | envelope => exact suspendZones_moves _
    | markers => exact (suspendMarkers_moves _).trans (recomputeNext_moves _)
    | setup => exact .refl
  · exact .refl

theorem forcedRelease_moves (p : PortId) (s : State) : Moves s (forcedRelease p s) := by
  unfold forcedRelease
  split
  · exact (((forceLock_moves _ _ _).trans (forceLock_moves _ _ _)).trans (forceLock_moves _ _ _)).trans (raiseAll_moves _ _)
  · exact .refl

/-- A cursor that stays at its place. -/
theorem sameCursor_moves {p : PortId} {c : Cursor} {s : State} (position : c.position = (s.pst.cursor p).position) :
    Moves s (setCursorOf p c s) :=
  .single (.cursor p c fun sound => position ▸ sound.2.2 p)

theorem demoteCursor_moves (p : PortId) (s : State) : Moves s (demoteCursor p s) := by
  unfold demoteCursor
  split
  · exact .tail (sameCursor_moves (by rfl)) .retry
  · exact .refl

theorem resetCursor_moves (p : PortId) (s : State) : Moves s (resetCursor p s) := by
  refine .tail (.single (.cursor p _ fun _ => ?_)) .retry
  simpa [seqOffset, oldestSeq] using Nat.mod_le _ _

theorem linkDown_moves (p : PortId) (s : State) : Moves s (linkDown p s) :=
  ((Move.down p).moves.trans (demoteCursor_moves p _)).trans (raiseOthers_moves _ _ _)

theorem linkTimeoutWritten_moves (p : PortId) (s : State) : Moves s (linkTimeoutWritten p s) := by
  unfold linkTimeoutWritten
  split
  · exact linkDown_moves p s
  · exact .refl

theorem linkExpires_moves (p : PortId) (s : State) : Moves s (linkExpires p s) := linkTimeoutWritten_moves p s

/-! ## The setup table -/

@[simp] theorem setupHead_head (u : Setup) (h g : HeadId) (v : HeadSetup) :
    (u.setHead h v).head g = if g = h then v else u.head g := by cases h <;> cases g <;> rfl
@[simp] theorem setLinkTimeout_linkTimeout (u : Setup) (p q : PortId) (v : Nat) :
    (u.setLinkTimeout p v).linkTimeout q = if q = p then v else u.linkTimeout q := by cases p <;> cases q <;> rfl
@[simp] theorem setSupplySetup_supply (u : Setup) (h g : HeadId) (v : SupplySetup) :
    (setSupplySetup u h v).supply g = if g = h then v else u.supply g := by cases h <;> cases g <;> rfl
@[simp] theorem avgOf_setAvg (u : Setup) (c d : Channel) (v : Nat) :
    avgOf (setAvg u c v) d = if d = c then v else avgOf u d := by
  rcases c with _ | ⟨_ | _⟩ | ⟨_ | _⟩ <;> rcases d with _ | ⟨_ | _⟩ | ⟨_ | _⟩ <;> rfl

/-- An entry that takes a value of its range or set holds it. -/
theorem setupValue_setSetup_self {u : Setup} {e : SetupEntry} {v : Int} (range : valueSound (entryRange e) v)
    (mask : entryRange e = .mask → 0 ≤ v ∧ v < 2 ^ 64) : setupValue (setSetup u e v) e = v := by
  cases e <;> simp [entryRange, valueSound] at range mask
  all_goals simp [setSetup, setupValue]
  case headEnable => rcases range with rfl | rfl <;> rfl
  case headMaxRate => rcases range with rfl | rfl | rfl <;> rfl
  case orientation => rcases range with rfl | rfl <;> rfl
  case stopEnable => rcases range with rfl | rfl <;> rfl
  all_goals omega

/-- Each entry has a field of its own: a write to one is no write to another. -/
theorem setupValue_setSetup_other {e f : SetupEntry} (apart : f ≠ e) (u : Setup) (v : Int) :
    setupValue (setSetup u e v) f = setupValue u f := by
  cases e <;> cases f <;> (try casesm* Channel, HeadId, PortId)
  all_goals try exact absurd rfl apart
  all_goals rfl

theorem setupSound_setSetup {u : Setup} {e : SetupEntry} {v : Int} (range : valueSound (entryRange e) v) (sound : setupSound u) :
    setupSound (setSetup u e v) := by
  intro f
  by_cases same : f = e
  · subst same
    cases kind : entryRange f with
    | mask => trivial
    | oneOf codes =>
      rw [kind] at range
      rwa [setupValue_setSetup_self (kind ▸ range) (by simp [kind])]
    | within lo hi =>
      rw [kind] at range
      rwa [setupValue_setSetup_self (kind ▸ range) (by simp [kind])]
  · rw [setupValue_setSetup_other same]; exact sound f

/-- The entries that the Advice Unit reads at any time (R156). -/
def adviceEntry : SetupEntry → Bool
  | .headEnable _ => true
  | .minRevs => true
  | .vCfg => true
  | .vCrawl => true
  | .storeHigh => true
  | _ => false

theorem sameAdviceSetup_setSetup {s : State} {e : SetupEntry} (v : Int) (quiet : adviceEntry e = false)
    (fixed : runFixed e = true → s.slb.run = .idle) : sameAdviceSetup s (setSetup s.setup e v) := by
  cases e <;> simp only [adviceEntry, reduceCtorEq] at quiet
  case sliceLength => exact ⟨rfl, rfl, rfl, rfl, rfl, rfl, .inl (fixed rfl)⟩
  all_goals (try casesm* Channel, HeadId, PortId) <;> exact ⟨rfl, rfl, rfl, rfl, rfl, rfl, .inr rfl⟩

theorem headEnableWritten_moves (h : HeadId) (on : Bool) (s : State) : Moves s (headEnableWritten h on s) := by
  unfold headEnableWritten
  split
  · split
    · exact enterPowering_moves _ _
    · exact .refl
  · exact enterOff_moves _ _

/-- A taken write of a setup entry: an input of the advice is evaluated, any other leaves the advice. -/
theorem setupWritten_moves {e : SetupEntry} {v : Int} {s : State} (range : valueSound (entryRange e) v)
    (fixed : runFixed e = true → s.slb.run = .idle) :
    Moves s (setupWritten e v { s with setup := setSetup s.setup e v }) := by
  have evaluated : Moves s (evaluateAdvice { s with setup := setSetup s.setup e v }) :=
    .single (.setup _ (setupSound_setSetup range))
  by_cases quiet : adviceEntry e = false
  · have written : Moves s { s with setup := setSetup s.setup e v } :=
      .single (.entry _ (sameAdviceSetup_setSetup v quiet fixed) (setupSound_setSetup range))
    cases e with
    | headEnable h => simp [adviceEntry] at quiet
    | minRevs => simp [adviceEntry] at quiet
    | vCfg => simp [adviceEntry] at quiet
    | vCrawl => simp [adviceEntry] at quiet
    | storeHigh => simp [adviceEntry] at quiet
    | encK => exact written.trans (withChainage_moves (by rfl) (by rfl))
    | linkTimeout p => exact written.trans (linkTimeoutWritten_moves p _)
    | _ => exact written
  · cases e with
    | headEnable h => exact evaluated.trans (headEnableWritten_moves _ _ _)
    | minRevs => exact evaluated
    | vCfg => exact evaluated
    | vCrawl => exact evaluated
    | storeHigh => exact evaluated
    | _ => simp [adviceEntry] at quiet

/-! ## Writing an entry -/

theorem clampField_le {lo hi v : Nat} (ordered : lo ≤ hi) : (clampField lo hi v).1 ≤ hi := by
  unfold clampField; split_ifs <;> simp <;> omega

/-- What a write that is taken leaves is reached by moves. -/
theorem writeEntry_moves {t : Table} {i : Nat} {entry : List Byte} {s a : State} {clamped : Bool}
    (fixed : fixedByRun s t i = false) (written : writeEntry t i entry s = .written clamped a) : Moves s a := by
  cases t with
  | setup =>
    have idle : runFixed (setupEntryOf i) = true → s.slb.run = .idle := by simpa [fixedByRun] using fixed
    simp only [writeEntry, writeSetup] at written
    split at written
    · rename_i kind
      obtain ⟨-, rfl⟩ := WriteOutcome.written.inj written
      exact setupWritten_moves (by simp [kind, valueSound]) idle
    · rename_i codes kind
      split at written
      · rename_i inside
        obtain ⟨-, rfl⟩ := WriteOutcome.written.inj written
        exact setupWritten_moves (by simpa [kind, valueSound] using inside) idle
      · simp at written
    · rename_i lo hi kind
      obtain ⟨-, rfl⟩ := WriteOutcome.written.inj written
      have ordered : lo ≤ hi := by
        revert kind
        cases setupEntryOf i <;> simp only [entryRange, reduceCtorEq, EntryRange.within.injEq, false_implies] <;>
          rintro ⟨rfl, rfl⟩ <;> decide
      refine setupWritten_moves ?_ idle
      rw [kind, valueSound, clampInt_eq_max_min ordered]
      omega
  | profiles =>
    obtain ⟨-, rfl⟩ := WriteOutcome.written.inj written
    exact .trans (withEnv_moves { s.env with radii := s.env.radii.setIfInBounds i (natOf entry) } s)
      (.single (.slices _ rfl rfl (queueSound_congr rfl rfl rfl rfl rfl)))
  | zones =>
    simp only [writeEntry, writeZone] at written
    split at written
    · cases written
    · split at written
      · cases written
      · split at written
        · cases written
          exact withEnv_moves _ s
        · split at written
          · cases written
          · cases written
            exact withEnv_moves _ s
  | markers =>
    simp only [writeEntry, writeMarker] at written
    split at written
    · obtain ⟨-, rfl⟩ := WriteOutcome.written.inj written
      refine .single (.track s.chu _ rfl fun sound => ⟨sound.1, fun e inside => ?_⟩)
      obtain ⟨j, bound, rfl⟩ := Vector.mem_iff_getElem.1 (Vector.mem_toList_iff.1 inside)
      dsimp only
      rw [Vector.getElem_setIfInBounds]
      split
      · exact clampField_le (Nat.zero_le _)
      · exact sound.2 _ (Vector.mem_toList_iff.2 (Vector.getElem_mem bound))
    · simp at written

theorem advancePointer_moves (p : PortId) (s : State) : Moves s (advancePointer p s) := setPort_moves id rfl

theorem writeTable_moves (p : PortId) (mode : Byte) (entry : List Byte) (s : State) :
    Moves s (writeTable p mode entry s).1 := by
  unfold writeTable
  split
  · exact .refl
  · dsimp only
    split
    · exact .refl
    split
    · exact .refl
    split
    · exact .refl
    split
    · exact .refl
    rename_i free
    split
    · exact .refl
    rename_i written
    have entered := writeEntry_moves (by simpa using free) written
    dsimp only
    split
    · exact entered
    · exact entered.trans (advancePointer_moves _ _)

end Sys2Proof.Machine

/-! SUPPORT. What the Store Arbiter, a commit and a served request leave, and every command as a chain of moves. -/

namespace Sys2Proof.Machine

/-! ## The Store Arbiter and a commit -/

theorem grantNextPort_same (s : State) : SameButSlices (grantNextPort s) s :=
  sameButSlices (slices_of_store (grantNextPort_store s))
theorem releaseByPort_same (s : State) : SameButSlices (releaseByPort s) s :=
  sameButSlices (slices_of_store (releaseByPort_store s))
theorem endCommitHold_same (s : State) : SameButSlices (endCommitHold s) s :=
  sameButSlices (slices_of_store (endCommitHold_store s))
theorem abandonCommit_same (s : State) : SameButSlices (abandonCommit s) s :=
  sameButSlices (slices_of_store (abandonCommit_store s))

theorem releaseByCommit_slices (s : State) : slicesMask (releaseByCommit s) = slicesMask s := by
  have ended : slicesMask (endCommitHold s) = slicesMask s := slices_of_store (endCommitHold_store s)
  rcases releaseByCommit_cases s with ⟨-, same⟩ | ⟨-, asked⟩
  · rw [same, ended]
  · rw [asked, askCommit_slices, ended]

theorem drainEnd_slices (s : State) : slicesMask (drainEnd s) = slicesMask s := by
  unfold drainEnd; split
  · exact setRun_slices _ _
  · rfl

/-- The parts of a commit, each outside the store, the slices, the advice and the latches. -/
theorem evictOldest_slices (s : State) : slicesMask (evictOldest s) = slicesMask s := by
  simp only [evictOldest, raiseMissed, slicesMask, storeMask, latchMask, State.mapPorts, unlatched]
  congr 1 <;> split <;> rfl

theorem raiseData_slices (number : SeqNo) (s : State) : slicesMask (raiseData number s) = slicesMask s := by
  simp only [raiseData, slicesMask, storeMask, latchMask, State.mapPorts, unlatched]
  congr 1 <;> split <;> rfl

theorem raiseClass_slices (cls : SectorState) (s : State) : slicesMask (raiseClass cls s) = slicesMask s := by
  cases cls <;> rfl

theorem raiseHigh_slices (before : Nat) (s : State) : slicesMask (raiseHigh before s) = slicesMask s := by
  unfold raiseHigh; split <;> rfl

theorem makeCommit_slices (x : PendingSlice) (rest : List PendingSlice) (s : State) :
    slicesMask (makeCommit x rest s) = slicesMask s := by
  have evicted : slicesMask (if fill s.pst = Config.storeCapacity then evictOldest s else s) = slicesMask s := by
    split
    · exact evictOldest_slices s
    · rfl
  have stored : ∀ t, slicesMask (storeRecord x rest t) = slicesMask t := fun _ => rfl
  rw [makeCommit, releaseByCommit_slices, drainEnd_slices, evaluateAdvice_slices, raiseHigh_slices, raiseClass_slices, stored,
    raiseData_slices, evicted]

theorem makeCommit_same (x : PendingSlice) (rest : List PendingSlice) (s : State) : SameButSlices (makeCommit x rest s) s :=
  sameButSlices (makeCommit_slices x rest s)

theorem refuseCommit_same (s : State) : SameButSlices (refuseCommit s) s := by
  apply sameButSlices
  unfold refuseCommit
  dsimp only
  split
  · rw [askCommit_slices]; exact slices_of_store (endCommitHold_store s)
  · exact slices_of_store (endCommitHold_store s)

/-! ## A served request -/

theorem moveCursor_slices (p : PortId) (n : SeqNo) (s : State) : slicesMask (moveCursor p n s) = slicesMask s :=
  retryEvent_slices _

theorem serveClear_slices (s : State) : slicesMask (serveClear s).1 = slicesMask s := by
  rw [serveClear, retryEvent_slices, evaluateAdvice_slices]
  simp only [slicesMask, storeMask, latchMask, State.mapPorts, unlatched]
  congr 1 <;> split <;> rfl

theorem serveRequest_slices (p : PortId) (q : StoreRequest) (s : State) : slicesMask (serveRequest p q s).1 = slicesMask s := by
  cases q with
  | readNext =>
    unfold serveRequest serveReadNext
    dsimp only
    split
    · rfl
    · exact moveCursor_slices _ _ _
  | readBlock count =>
    unfold serveRequest serveReadBlock
    dsimp only
    split
    · rfl
    · exact moveCursor_slices _ _ _
  | peek n => unfold serveRequest servePeek; dsimp only; split <;> rfl
  | setCursor target => exact moveCursor_slices _ _ _
  | clear => exact serveClear_slices s

theorem setSlot_slices {a b : State} (p : PortId) (x : Slot) (same : slicesMask a = slicesMask b) :
    slicesMask (setSlot p x a) = slicesMask (setSlot p x b) := by
  have inside : ∀ c, slicesMask (setSlot p x c) = setSlot p x (slicesMask c) := by intro c; cases p <;> rfl
  rw [inside, inside, same]

/-- What a served request leaves outside the store, the slices, the advice and the latches is its answer. -/
theorem grantAndServe_same (p : PortId) (q : StoreRequest) (echo : Byte) (s : State) :
    SameButSlices (grantAndServe p q echo s)
      (putAnswer p echo (serveRequest p q (grantPort p s)).2 s) :=
  sameButSlices <| (slices_of_store (releaseByPort_store _)).trans
    (setSlot_slices p _ ((serveRequest_slices p q _).trans rfl))

/-- A granted port with its request in work is served; any other port has no work (R150). -/
theorem finishGrant_cases (p : PortId) (s : State) :
    (∃ q echo, s.pst.holder = .port p ∧ (s.port p).slot = .working q echo ∧ finishGrant p s = grantAndServe p q echo s) ∨
    ((s.pst.holder ≠ .port p ∨ portWaiting s p = false) ∧ finishGrant p s = s) := by
  by_cases granted : s.pst.holder = .port p ∧ portWaiting s p = true
  · obtain ⟨holder, works⟩ := granted
    cases slot : (s.port p).slot with
    | idle => simp [portWaiting, slot] at works
    | ready a => simp [portWaiting, slot] at works
    | working q echo => exact .inl ⟨q, echo, holder, rfl, finishGrant_holder holder slot⟩
  · have other : s.pst.holder ≠ .port p ∨ portWaiting s p = false := by
      rw [← Bool.not_eq_true]; exact not_and_or.1 granted
    exact .inr ⟨other, finishGrant_other other⟩

/-! ## No move makes a port wait -/

theorem portWaiting_congr {s t : State} {p : PortId} (slot : (s.port p).slot = (t.port p).slot) :
    portWaiting s p = portWaiting t p := by rw [portWaiting, portWaiting, slot]

theorem portWaiting_setPort (s : State) (p q : PortId) (m : MasterPort) :
    portWaiting (s.setPort p m) q = if q = p then portWaiting (s.setPort p m) p else portWaiting s q := by
  by_cases own : q = p
  · simp [own]
  · simp [portWaiting, setPort_port, own]

/-- An answer ends the request of its port, and leaves the other ports. -/
theorem portWaiting_putAnswer (p q : PortId) (echo : Byte) (r : Reply) (s : State) :
    portWaiting (putAnswer p echo r s) q = if q = p then false else portWaiting s q := by
  rw [putAnswer, setSlot, portWaiting_setPort]
  simp [portWaiting]

theorem grantAndServe_waiting (p q : PortId) (r : StoreRequest) (echo : Byte) (s : State) :
    portWaiting (grantAndServe p r echo s) q = if q = p then false else portWaiting s q := by
  rw [(grantAndServe_same p r echo s).waiting, portWaiting_putAnswer]

theorem forceLock_port (p q : PortId) (k : Lock) (s : State) : (forceLock p k s).port q = s.port q := by
  unfold forceLock
  split
  · cases k with
    | envelope => simp only [reportForced, suspendZones]; split <;> cases q <;> rfl
    | markers =>
      simp only [reportForced]
      obtain ⟨n, same⟩ := recomputeNext_eq (suspendMarkers (setLock .markers none s))
      rw [same, suspendMarkers]
      split <;> cases q <;> rfl
    | setup => cases q <;> rfl
  · rfl

/-- A forced release leaves the ports but for LOCK_FORCED in their latches (R174). -/
theorem forcedRelease_port (p q : PortId) (s : State) :
    (forcedRelease p s).port q =
      if holdsAny s p then { s.port q with latch := latched .lockForced (s.port q).latch } else s.port q := by
  unfold forcedRelease
  split <;> simp [forceLock_port]

theorem Move.stays_idle {s t : State} (one : Move s t) {p : PortId} (idle : portWaiting s p = false) :
    portWaiting t p = false := by
  cases one with
  | aside => cases p <;> exact idle
  | latches => exact (portWaiting_congr (t := s) (by simp)).trans idle
  | port q m link work =>
    rw [portWaiting_setPort]
    split
    · rename_i own
      rcases work with same | ⟨ends, -⟩
      · rw [same, ← own]; exact idle
      · exact ends
    · exact idle
  | lock => cases p <;> exact idle
  | down q =>
    refine (portWaiting_congr ?_).trans idle
    rw [forcedRelease_port]
    split <;> (by_cases own : p = q <;> simp [setPort_port, own])
  | slices => cases p <;> exact idle
  | run => rw [(setRun_same _ _).waiting]; exact idle
  | close x rest c stop =>
    rw [(reportClass_same _ _ _).waiting, (sameButSlices (appendPending_slices c rest s)).waiting]; exact idle
  | abort =>
    rw [(setRun_same _ _).waiting, (abandonCommit_same _).waiting]
    cases p <;> exact idle
  | position => rw [(evaluateAdvice_same _).waiting]; cases p <;> exact idle
  | track => cases p <;> exact idle
  | head h r =>
    rw [(evaluateAdvice_same _).waiting]
    exact (portWaiting_congr (t := s) (by simp)).trans idle
  | count h r => exact (portWaiting_congr (t := s) (by simp)).trans idle
  | setup => rw [(evaluateAdvice_same _).waiting]; cases p <;> exact idle
  | entry => cases p <;> exact idle
  | cursor => cases p <;> exact idle
  | retry => rw [(retryEvent_same _).waiting]; exact idle
  | commit x rest => rw [(makeCommit_same x rest s).waiting]; exact idle
  | refuse => rw [(refuseCommit_same s).waiting]; exact idle
  | serve q r echo =>
    rw [grantAndServe_waiting]
    split
    · rfl
    · exact idle
  | clearStop q => rw [(sameButSlices (clearStopLatch_slices q s)).waiting]; exact idle
  | soft => cases p <;> rfl
  | device => cases p <;> rfl

theorem Moves.stays_idle {s t : State} (chain : Moves s t) {p : PortId} (idle : portWaiting s p = false) :
    portWaiting t p = false :=
  chain.keeps (P := fun u => portWaiting u p = false) (fun one => one.stays_idle) idle

/-! ## The requests -/

theorem portWaiting_of_idle {s : State} {p : PortId} (idle : (s.port p).slot = .idle) : portWaiting s p = false := by
  rw [portWaiting, idle]

theorem plainRequest_moves {p : PortId} {echo : Byte} {act : State → State × Reply} {s : State}
    (acts : ∀ t, linkUp (t.port p) = true → Moves t (act t).1) : Moves s (plainRequest p echo act s) := by
  by_cases idle : (s.port p).slot = .idle
  · rw [plainRequest_idle idle]
    have acted : Moves s (act (afterFrame p s)).1 :=
      (afterFrame_moves p s).trans (acts _ (by simp [afterFrame, linkUp]))
    exact acted.trans (putAnswer_moves (acted.stays_idle (portWaiting_of_idle idle)) echo _)
  · rw [plainRequest_busy idle]
    exact afterFrame_moves p s

/-- A request that begins to wait for the held store: what a command can do beside moves. -/
def waitsFor (s t : State) : Prop :=
  ∃ p q echo, storeFree s = false ∧ t = setSlot p (.working q echo) s

theorem storeRequest_moves (p : PortId) (echo : Byte) (refusal : State → Option Status) (q : StoreRequest) (s : State) :
    Moves s (storeRequest p echo refusal q s) ∨ ∃ a, Moves s a ∧ waitsFor a (storeRequest p echo refusal q s) := by
  by_cases idle : (s.port p).slot = .idle
  · have framed := afterFrame_moves p s
    cases judged : refusal (afterFrame p s) with
    | some st =>
      rw [storeRequest_refused idle echo q judged]
      exact .inl (framed.trans (putAnswer_moves (framed.stays_idle (portWaiting_of_idle idle)) echo (bare st)))
    | none =>
      rw [storeRequest_asks idle echo q judged]
      cases free : storeFree (afterFrame p s) with
      | true => rw [askPort_free free]; exact .inl (framed.tail (.serve p q echo (.inl free)))
      | false => rw [askPort_held free]; exact .inr ⟨_, framed, p, q, echo, free, rfl⟩
  · rw [storeRequest_busy idle]
    exact .inl (afterFrame_moves p s)

theorem headRequest_moves {head : Byte} {act : HeadId → State → State × Reply} {s : State}
    (acts : ∀ h, Moves s (act h s).1) : Moves s (headRequest head act s).1 := by
  unfold headRequest
  split
  · exact .refl
  · exact acts _

theorem needsSetup_moves {p : PortId} {act : State → State × Reply} {s : State} (acts : Moves s (act s).1) :
    Moves s (needsSetup p act s).1 := by
  unfold needsSetup
  split
  · exact acts
  · exact .refl

theorem resetCounter_moves (h : HeadId) (c : CounterClass) (s : State) :
    Moves s (s.setHead h { s.head h with selection := c, counter := 0 }) := by
  refine .single (.count h _ ⟨.rfl, fun _ => rfl⟩ fun sound => ?_)
  obtain ⟨settle, attempt, watchdog, revolution, periods, rejections, failures, -, rest⟩ := sound
  exact ⟨settle, attempt, watchdog, revolution, periods, rejections, failures, Nat.zero_le _, rest⟩

theorem restartRequest_moves (h : HeadId) (s : State) : Moves s (restartRequest h s).1 := by
  unfold restartRequest
  split
  · exact .refl
  · exact (enterPowering_moves h s).trans (raiseAll_moves _ _)

theorem readHead_moves (h : HeadId) (s : State) : Moves s (readHead h s).1 := by
  unfold readHead
  dsimp only
  split
  · exact useFree_moves s
  · exact .refl

theorem selectCounterRequest_moves (x : Byte) (h : HeadId) (s : State) : Moves s (selectCounterRequest x h s).1 := by
  unfold selectCounterRequest
  split
  · exact .refl
  · exact resetCounter_moves h _ s

theorem setChainageRequest_moves (mm : BitVec 32) (s : State) : Moves s (setChainageRequest mm s).1 := by
  unfold setChainageRequest
  split
  · exact setChainageTo_moves le_rfl s
  · rename_i range
    exact setChainageTo_moves (not_lt.1 range) s

theorem startRunRequest_moves (s : State) : Moves s (startRunRequest s).1 := by
  unfold startRunRequest
  split
  · exact .refl
  · rename_i idle
    have idle : s.slb.run = .idle := not_not.1 idle
    split
    · exact .refl
    · have none : queueSound s.slb → s.slb.openSlices = [] := fun sound => by
        obtain ⟨-, -, empty, -⟩ := sound
        exact (empty idle).1
      have begun : Moves s (beginRun s) := .single (.slices _ rfl rfl fun sound =>
        queueSound_of_none_open sound (none sound) rfl
          (fun _ => by obtain ⟨-, -, empty, -⟩ := sound; exact (empty idle).2) (by simp [idle]))
      refine begun.trans (.single (.run .running fun sound => ?_))
      have opened : (beginRun s).slb.openSlices = [] := by
        obtain ⟨-, -, empty, -⟩ := sound
        exact (empty idle).1
      exact queueSound_of_none_open sound opened rfl (by simp) (by simp)

theorem stopRunRequest_moves (s : State) : Moves s (stopRunRequest s).1 := by
  unfold stopRunRequest
  dsimp only
  split
  · exact (flush_moves s).trans (endRun_moves (flush_openSlices s))
  · exact .refl

theorem abortRunRequest_moves (s : State) : Moves s (abortRunRequest s).1 := by
  unfold abortRunRequest
  dsimp only
  split
  · exact .refl
  · rename_i run
    exact .single (.abort run)

theorem changeMode_moves (p : PortId) (m : CursorMode) (s : State) : Moves s (changeMode p m s) := by
  unfold changeMode
  dsimp only
  have set : Moves s (setCursorOf p { s.pst.cursor p with mode := m } s) := sameCursor_moves rfl
  split
  · exact set
  · exact set.tail .retry

theorem cursorModeRequest_moves (p : PortId) (mode : Byte) (s : State) : Moves s (cursorModeRequest p mode s).1 := by
  unfold cursorModeRequest
  split
  · exact .refl
  · exact changeMode_moves p _ s

theorem pointTable_moves (p : PortId) (table : Byte) (index : BitVec 16) (s : State) : Moves s (pointTable p table index s).1 := by
  unfold pointTable
  split
  · exact .refl
  · split
    · exact .refl
    · exact setPort_moves id rfl

theorem readTable_moves (p : PortId) (mode : Byte) (s : State) : Moves s (readTable p mode s).1 := by
  unfold readTable
  split
  · exact .refl
  · dsimp only
    split
    · exact .refl
    · dsimp only
      split
      · exact advancePointer_moves p s
      · exact .refl

theorem tableWriteRequest_moves (p : PortId) (mode : Byte) (entry : List Byte) (s : State) :
    Moves s (tableWriteRequest p mode entry s).1 := by
  unfold tableWriteRequest
  split
  · exact writeTable_moves p mode entry s
  · exact .refl

theorem takeLockRequest_moves {p : PortId} {lock : Byte} {s : State} (up : linkUp (s.port p) = true) :
    Moves s (takeLockRequest p lock s).1 := by
  unfold takeLockRequest
  split
  · exact .refl
  · exact takeLockOf_moves up

theorem giveLockRequest_moves (p : PortId) (lock : Byte) (s : State) : Moves s (giveLockRequest p lock s).1 := by
  unfold giveLockRequest
  split
  · exact .refl
  · exact giveLockOf_moves p _ s

theorem softResetAll_moves (s : State) : Moves s (softResetAll s) := by
  have power : ∀ h t, Moves t (powerIfEnabled h t) := fun h t => by
    unfold powerIfEnabled
    split
    · exact enterPowering_moves h t
    · exact .refl
  exact (Move.soft.moves.trans (power .h1 _)).trans (power .h2 _)

/-- PORT RESET: the port is emptied once a request that was granted the store has done its work (R151, R183). -/
theorem resetPort_moves (p : PortId) (s : State) : Moves s (resetPort p s) := by
  have finished : Moves s (finishGrant p s) ∧
      (portWaiting (finishGrant p s) p = false ∨ (finishGrant p s).pst.holder ≠ .port p) := by
    rcases finishGrant_cases p s with ⟨q, echo, holder, -, served⟩ | ⟨other, same⟩
    · rw [served]
      exact ⟨.single (.serve p q echo (.inr holder)), .inl (by rw [grantAndServe_waiting, if_pos rfl])⟩
    · rw [same]
      exact ⟨.refl, other.symm⟩
  obtain ⟨work, ended⟩ := finished
  have cleared : portWaiting ((finishGrant p s).setPort p (clearPort ((finishGrant p s).port p))) p = false := by
    simp [portWaiting, clearPort]
  have emptied : Moves s ((finishGrant p s).setPort p (clearPort ((finishGrant p s).port p))) := by
    refine work.tail (.port p _ id ?_)
    rcases ended with idle | other
    · exact .inl (cleared.trans idle.symm)
    · exact .inr ⟨cleared, other⟩
  have released : Moves ((finishGrant p s).setPort p (clearPort ((finishGrant p s).port p)))
      (forcedRelease p (resetCursor p ((finishGrant p s).setPort p (clearPort ((finishGrant p s).port p))))) :=
    (resetCursor_moves p _).trans (forcedRelease_moves p _)
  exact (emptied.trans released).trans (putAnswer_moves (released.stays_idle cleared) 0x0E _)

theorem fetchAnswer_moves (p : PortId) (clocked : Nat) (s : State) : Moves s (fetchAnswer p clocked s) := by
  unfold fetchAnswer
  dsimp only
  have clockedOut : ∀ bytes, Moves s (s.setPort p { s.port p with sdo := bytes }) := fun _ => setPort_moves id rfl
  split
  · rename_i held
    refine (clockedOut _).trans (setSlot_moves ?_ (by simp [portWaiting]))
    have : ready s p = true := by simp only [Bool.and_eq_true] at held; exact held.1
    rw [portWaiting, setPort_port_self]
    revert this
    unfold ready
    cases (s.port p).slot <;> simp
  · exact clockedOut _

theorem refuseFrame_moves (p : PortId) (frame : List Byte) (s : State) : Moves s (refuseFrame p frame s) := by
  unfold refuseFrame
  split
  · exact .refl
  · dsimp only
    have framed : Moves s (if findingValid (judgeFrame frame) then validFrame p (beginTransaction p s)
        else beginTransaction p s) := by
      split
      · rw [validFrame_beginTransaction]; exact afterFrame_moves p s
      · exact beginTransaction_moves p s
    split
    · rename_i idle
      rw [slotIdle_iff] at idle
      exact framed.trans (putAnswer_moves (framed.stays_idle (portWaiting_of_idle idle)) _ _)
    · exact framed

theorem completeCommit_moves (s : State) : Moves s (completeCommit s) := by
  unfold completeCommit
  split
  · rename_i held
    split
    · exact .refl
    · rename_i x rest oldest
      split
      · exact .single (.refuse held (by simp [oldest]))
      · exact .single (.commit x rest held oldest)
  · exact .refl

theorem grantWaiting_moves (s : State) : Moves s (grantWaiting s) := by
  unfold grantWaiting
  split
  · rename_i p holder
    rcases finishGrant_cases p s with ⟨q, echo, -, -, served⟩ | ⟨-, same⟩
    · rw [served]; exact .single (.serve p q echo (.inr holder))
    · rw [same]
  · exact .refl

/-! ## Every command -/

/-- The state a command leads to is reached by moves, and by the wait of a store request where it finds the store held. -/
def Reached (s t : State) : Prop := Moves s t ∨ ∃ a, Moves s a ∧ waitsFor a t

theorem exec_reached (c : Instr) (s : State) : ∃ t, exec c s = .next t ∧ Reached s t := by
  cases c with
  | trainAck h rate => exact ⟨_, rfl, .inl (takeTrainAck_moves h rate s)⟩
  | revStart h number rate => exact ⟨_, rfl, .inl (takeRevStart_moves h number rate s)⟩
  | sampleBlock h block samples => exact ⟨_, rfl, .inl (takeSampleBlock_moves h block samples s)⟩
  | revEnd h number count => exact ⟨_, rfl, .inl (takeRevEnd_moves h number count s)⟩
  | settleTimerExpiry h => exact ⟨_, rfl, .inl (settleExpires_moves h s)⟩
  | attemptTimerExpiry h => exact ⟨_, rfl, .inl (attemptExpires_moves h s)⟩
  | revolutionWatchdogExpiry h => exact ⟨_, rfl, .inl (watchdogExpires_moves h s)⟩
  | headRestart p head =>
    exact ⟨_, rfl, .inl (plainRequest_moves fun t _ => headRequest_moves fun h => restartRequest_moves h t)⟩
  | headPowerOff p head => exact ⟨_, rfl, .inl (plainRequest_moves fun t _ => headRequest_moves fun h => enterOff_moves h t)⟩
  | readHeadStatus p head =>
    exact ⟨_, rfl, .inl (plainRequest_moves fun t _ => headRequest_moves fun h => readHead_moves h t)⟩
  | selectHeadCounter p head selection =>
    exact ⟨_, rfl, .inl (plainRequest_moves fun t _ => headRequest_moves fun h => selectCounterRequest_moves selection h t)⟩
  | clearHeadCounter p head =>
    exact ⟨_, rfl, .inl (plainRequest_moves fun t _ => headRequest_moves fun h =>
      resetCounter_moves h (t.head h).selection t)⟩
  | conversion ch raw => exact ⟨_, rfl, .inl (takeConversion_moves ch raw s)⟩
  | readSense p => exact ⟨_, rfl, .inl (plainRequest_moves fun _ _ => .refl)⟩
  | encoderTransition side phase => exact ⟨_, rfl, .inl (takeTransition_moves side phase s)⟩
  | windowEnd =>
    exact ⟨_, rfl, .inl (.trans (.single (.aside s.env s.scv s.signals 0 s.conversionTime s.freeCount s.nextChannel))
      (takeWindowEnd_moves _))⟩
  | setChainage p mm =>
    exact ⟨_, rfl, .inl (plainRequest_moves fun t _ => needsSetup_moves (setChainageRequest_moves mm t))⟩
  | markEdge => exact ⟨_, rfl, .inl (takeEdge_moves s)⟩
  | readCaptures p first count => exact ⟨_, rfl, .inl (plainRequest_moves fun _ _ => .refl)⟩
  | startRun p => exact ⟨_, rfl, .inl (plainRequest_moves fun t _ => needsSetup_moves (startRunRequest_moves t))⟩
  | stopRun p => exact ⟨_, rfl, .inl (plainRequest_moves fun t _ => stopRunRequest_moves t)⟩
  | abortRun p => exact ⟨_, rfl, .inl (plainRequest_moves fun t _ => abortRunRequest_moves t)⟩
  | commit => exact ⟨_, rfl, .inl (completeCommit_moves s)⟩
  | storeGrant => exact ⟨_, rfl, .inl (grantWaiting_moves s)⟩
  | readNext p => exact ⟨_, rfl, storeRequest_moves p _ _ _ s⟩
  | readBlock p count => exact ⟨_, rfl, storeRequest_moves p _ _ _ s⟩
  | peekRecord p seq => exact ⟨_, rfl, storeRequest_moves p _ _ _ s⟩
  | setCursor p selector seq =>
    refine ⟨_, rfl, ?_⟩
    split
    · exact .inl (plainRequest_moves fun _ _ => .refl)
    · exact storeRequest_moves p _ _ _ s
  | setCursorMode p mode => exact ⟨_, rfl, .inl (plainRequest_moves fun t _ => cursorModeRequest_moves p mode t)⟩
  | readCursor p => exact ⟨_, rfl, .inl (plainRequest_moves fun _ _ => sameCursor_moves rfl)⟩
  | clearStore p => exact ⟨_, rfl, storeRequest_moves p _ _ _ s⟩
  | clearStop p => exact ⟨_, rfl, .inl (plainRequest_moves fun _ _ => .single (.clearStop p))⟩
  | statusPoll p => exact ⟨_, rfl, .inl (beginTransaction_moves p s)⟩
  | fetch p clocked => exact ⟨_, rfl, .inl (fetchAnswer_moves p clocked s)⟩
  | linkTimeout p => exact ⟨_, rfl, .inl (linkExpires_moves p s)⟩
  | takeLock p lock => exact ⟨_, rfl, .inl (plainRequest_moves fun _ up => takeLockRequest_moves up)⟩
  | giveLock p lock => exact ⟨_, rfl, .inl (plainRequest_moves fun t _ => giveLockRequest_moves p lock t)⟩
  | setSignals p mask =>
    exact ⟨_, rfl, .inl (plainRequest_moves fun t _ =>
      .single (.aside t.env t.scv _ t.windowTime t.conversionTime t.freeCount t.nextChannel))⟩
  | clearSignals p mask =>
    exact ⟨_, rfl, .inl (plainRequest_moves fun t _ =>
      .single (.aside t.env t.scv _ t.windowTime t.conversionTime t.freeCount t.nextChannel))⟩
  | setSignalEnable p mask => exact ⟨_, rfl, .inl (plainRequest_moves fun _ _ => setPort_moves id rfl)⟩
  | readEvents p => exact ⟨_, rfl, .inl (plainRequest_moves fun _ _ => setPort_moves id rfl)⟩
  | setEventEnable p mask => exact ⟨_, rfl, .inl (plainRequest_moves fun _ _ => setPort_moves id rfl)⟩
  | tablePoint p table index => exact ⟨_, rfl, .inl (plainRequest_moves fun t _ => pointTable_moves p table index t)⟩
  | tableRead p mode => exact ⟨_, rfl, .inl (plainRequest_moves fun t _ => readTable_moves p mode t)⟩
  | tableWrite p mode entry => exact ⟨_, rfl, .inl (plainRequest_moves fun t _ => tableWriteRequest_moves p mode entry t)⟩
  | tableWriteHeadEnable p mode entry =>
    exact ⟨_, rfl, .inl (plainRequest_moves fun t _ => tableWriteRequest_moves p mode entry t)⟩
  | tableWriteEncK p mode entry => exact ⟨_, rfl, .inl (plainRequest_moves fun t _ => tableWriteRequest_moves p mode entry t)⟩
  | tableWriteLinkTimeout p mode entry =>
    exact ⟨_, rfl, .inl (plainRequest_moves fun t _ => tableWriteRequest_moves p mode entry t)⟩
  | tableWriteMarkers p mode entry =>
    exact ⟨_, rfl, .inl (plainRequest_moves fun t _ => tableWriteRequest_moves p mode entry t)⟩
  | tableWriteZones p mode entry => exact ⟨_, rfl, .inl (plainRequest_moves fun t _ => tableWriteRequest_moves p mode entry t)⟩
  | tableWriteProfiles p mode entry =>
    exact ⟨_, rfl, .inl (plainRequest_moves fun t _ => tableWriteRequest_moves p mode entry t)⟩
  | readStatus p => exact ⟨_, rfl, .inl (plainRequest_moves fun _ _ => .refl)⟩
  | portReset p =>
    refine ⟨_, rfl, .inl ?_⟩
    rw [validFrame_beginTransaction]
    exact (afterFrame_moves p s).trans (resetPort_moves p _)
  | softReset p => exact ⟨_, rfl, .inl (plainRequest_moves fun t _ => needsSetup_moves (softResetAll_moves t))⟩
  | deviceReset left right => exact ⟨_, rfl, .inl (.single (.device left right))⟩
  | frameFailsCheck h frame =>
    refine ⟨_, rfl, .inl ?_⟩
    split
    · exact .refl
    · exact dropFrame_moves h s
  | framingRefusal p frame => exact ⟨_, rfl, .inl (refuseFrame_moves p frame s)⟩
  | tableWriteAdviceInput p mode entry =>
    exact ⟨_, rfl, .inl (plainRequest_moves fun t _ => tableWriteRequest_moves p mode entry t)⟩

/-! ## Every step -/

/-- A due event changes the queue and the count of free values. -/
theorem placeDue_eq (s : State) (c : Instr) : ∃ q n, placeDue s c = { s with pending := q, freeCount := n } := by
  unfold placeDue
  split <;> exact ⟨_, _, rfl⟩

theorem foldl_placeDue_eq (cs : List Instr) (s : State) :
    ∃ q n, cs.foldl placeDue s = { s with pending := q, freeCount := n } := by
  induction cs generalizing s with
  | nil => exact ⟨s.pending, s.freeCount, rfl⟩
  | cons c cs ih =>
    obtain ⟨q, n, placed⟩ := placeDue_eq s c
    obtain ⟨r, m, rest⟩ := ih (placeDue s c)
    exact ⟨r, m, by rw [List.foldl_cons, rest, placed]⟩

/-- One microsecond moves the clocks and what a due event changes. -/
theorem tick_eq (s : State) : ∃ q n, tick s = { advanceClocks s with pending := q, freeCount := n } := foldl_placeDue_eq _ _

/-- An invariant of the part: no statement about the queue and the count of free values, kept by one microsecond, by every move, and by
the wait of a store request. -/
structure StepInvariant (P : State → Prop) : Prop where
  queue : ∀ s q n, P s → P { s with pending := q, freeCount := n }
  clock : ∀ s, P s → P (advanceClocks s)
  move : ∀ {s t}, Move s t → P s → P t
  wait : ∀ {s t}, waitsFor s t → P s → P t

/-- Every step keeps an invariant of the part. -/
theorem StepInvariant.step {P : State → Prop} (invariant : StepInvariant P) {s t : State} (taken : step s = .next t) (holds : P s) :
    P t := by
  unfold Sys2Proof.Machine.step at taken
  split at taken
  · obtain rfl : tick s = t := by simpa using taken
    obtain ⟨q, n, ticked⟩ := tick_eq s
    rw [ticked]
    exact invariant.queue _ _ _ (invariant.clock s holds)
  · rename_i c rest _
    obtain ⟨u, run, reached⟩ := exec_reached c { s with pending := rest }
    obtain rfl : u = t := by simpa [run] using taken
    have begun : P { s with pending := rest } := invariant.queue s rest s.freeCount holds
    rcases reached with chain | ⟨a, chain, waits⟩
    · exact chain.keeps invariant.move begun
    · exact invariant.wait waits (chain.keeps invariant.move begun)

end Sys2Proof.Machine

/-! O54, O55, O2: what every step keeps of the locks, the ranges, the heads and the queue of commands. -/

namespace Sys2Proof.Machine

/-! ## A forced release -/

/-- A forced release of one lock changes the lock, and its owner's suspension flag and next expected marker. -/
theorem forceLock_eq (p : PortId) (k : Lock) (s : State) :
    ∃ e m, m.table = s.mku.table ∧
      forceLock p k s =
        { s with locks := if s.locks.holder k = some p then s.locks.setHolder k none else s.locks, env := e, mku := m } := by
  unfold forceLock
  by_cases held : s.locks.holder k = some p
  · simp only [held, if_true]
    cases k with
    | envelope =>
      simp only [reportForced, suspendZones]
      split <;> exact ⟨_, _, rfl, rfl⟩
    | markers =>
      simp only [reportForced]
      obtain ⟨n, same⟩ := recomputeNext_eq (suspendMarkers (setLock .markers none s))
      rw [same, suspendMarkers]
      split <;> exact ⟨_, _, by rfl, rfl⟩
    | setup => exact ⟨_, _, rfl, rfl⟩
  · simp only [held, if_false]
    exact ⟨_, _, rfl, rfl⟩

/-- The lock table without the locks of a port. -/
def LockTable.without (l : LockTable) (p : PortId) : LockTable :=
  { envelope := if l.envelope = some p then none else l.envelope,
    markers := if l.markers = some p then none else l.markers,
    setup := if l.setup = some p then none else l.setup }

theorem without_holder (l : LockTable) (p : PortId) (k : Lock) :
    (l.without p).holder k = if l.holder k = some p then none else l.holder k := by cases k <;> rfl

/-- A forced release takes every lock of its port, and leaves what it does not concern (R174). -/
theorem forcedRelease_eq (p : PortId) (s : State) :
    ∃ e m, m.table = s.mku.table ∧
      forcedRelease p s =
        if holdsAny s p then raiseAll .lockForced { s with locks := s.locks.without p, env := e, mku := m } else s := by
  unfold forcedRelease
  split
  · obtain ⟨_, _, kept1, first⟩ := forceLock_eq p .envelope s
    obtain ⟨_, _, kept2, second⟩ := forceLock_eq p .markers (forceLock p .envelope s)
    obtain ⟨e, m, kept3, third⟩ := forceLock_eq p .setup (forceLock p .markers (forceLock p .envelope s))
    refine ⟨e, m, kept3.trans ?_, ?_⟩
    · rw [second, first]; rw [first] at kept2; exact kept2.trans kept1
    · rw [third, second, first]
      congr 2
      by_cases a : s.locks.envelope = some p <;> by_cases b : s.locks.markers = some p <;> by_cases c : s.locks.setup = some p <;>
        simp [LockTable.without, LockTable.holder, LockTable.setHolder, a, b, c]
  · exact ⟨s.env, s.mku, rfl, rfl⟩

theorem holdsAny_iff (s : State) (p : PortId) : holdsAny s p = true ↔ ∃ k, s.locks.holder k = some p := by
  simp only [holdsAny, holds, Bool.or_eq_true, decide_eq_true_eq]
  constructor
  · rintro ((held | held) | held) <;> exact ⟨_, held⟩
  · rintro ⟨k, held⟩
    cases k <;> simp [held]

/-! ## The locks -/

theorem locksUp_congr {s t : State} (locks : t.locks = s.locks)
    (link : ∀ p, linkUp (s.port p) = true → linkUp (t.port p) = true) (up : locksUp s) : locksUp t := by
  intro k p held
  rw [locks] at held
  exact link p (up k p held)

theorem locksUp_same {s t : State} (same : SameButSlices t s) (up : locksUp s) : locksUp t :=
  locksUp_congr same.locks (fun p linked => (same.linkUp p).trans linked) up

theorem locksUp_setPort {p : PortId} {m : MasterPort} {s : State} (link : linkUp (s.port p) = true → linkUp m = true)
    (up : locksUp s) : locksUp (s.setPort p m) := by
  refine locksUp_congr (by simp) (fun q linked => ?_) up
  by_cases own : q = p
  · subst own; simpa using link linked
  · simpa [setPort_port, own] using linked

/-- A link goes DOWN with its locks freed (R171, R174). -/
theorem locksUp_down {p : PortId} {s : State} (up : locksUp s) :
    locksUp (forcedRelease p (s.setPort p { s.port p with link := .down })) := by
  obtain ⟨e, m, -, freed⟩ := forcedRelease_eq p (s.setPort p { s.port p with link := .down })
  have others : ∀ k q, s.locks.holder k = some q → q ≠ p →
      linkUp ((s.setPort p { s.port p with link := .down }).port q) = true := fun k q held other => by
    rw [setPort_port, if_neg other]; exact up k q held
  rw [freed]
  split
  · intro k q held
    simp only [raiseAll_locks, setPort_locks, without_holder] at held
    split at held
    · cases held
    · rename_i own
      have other : q ≠ p := by rintro rfl; exact own held
      rw [raiseAll_port]
      exact others k q held other
  · rename_i none
    intro k q held
    refine others k q (by simpa using held) ?_
    rintro rfl
    exact none ((holdsAny_iff _ _).2 ⟨k, held⟩)

theorem tickPort_up {m : MasterPort} (up : linkUp m = true) : linkUp (tickPort m) = true := by
  cases link : m.link <;> simp_all [linkUp, tickPort, tickLink]

theorem locksUp_invariant : StepInvariant locksUp where
  queue s q n up := up
  clock s up := locksUp_congr (s := s) rfl (fun p linked => by cases p <;> exact tickPort_up linked) up
  wait := by
    rintro s _ ⟨p, q, echo, -, rfl⟩ up
    exact locksUp_setPort id up
  move := by
    intro s t one up
    cases one with
    | aside => exact up
    | latches f => exact locksUp_congr (s := s) rfl (fun p linked => by rw [mapPorts_port]; exact linked) up
    | port p m link work => exact locksUp_setPort link up
    | lock k v linked =>
      intro j q held
      rw [setLock, setHolder_holder] at held
      split at held
      · exact linked q held
      · exact up j q held
    | down p => exact locksUp_down up
    | slices => exact up
    | run => exact locksUp_same (setRun_same _ s) up
    | close x rest c stop =>
      exact locksUp_same (reportClass_same _ _ _) (locksUp_same (sameButSlices (appendPending_slices c rest s)) up)
    | abort => exact locksUp_same (setRun_same _ _) (locksUp_same (abandonCommit_same _) up)
    | position => exact locksUp_same (evaluateAdvice_same _) up
    | track => exact up
    | head h r =>
      exact locksUp_same (evaluateAdvice_same _) (locksUp_congr (by simp) (fun p linked => by rwa [setHead_port]) up)
    | count h r => exact locksUp_congr (by simp) (fun p linked => by rwa [setHead_port]) up
    | setup => exact locksUp_same (evaluateAdvice_same _) up
    | entry => exact up
    | cursor => exact up
    | retry => exact locksUp_same (retryEvent_same s) up
    | commit x rest => exact locksUp_same (makeCommit_same x rest s) up
    | refuse => exact locksUp_same (refuseCommit_same s) up
    | serve p q echo => exact locksUp_same (grantAndServe_same p q echo s) (locksUp_setPort id up)
    | clearStop p => exact locksUp_same (sameButSlices (clearStopLatch_slices p s)) up
    | soft => intro k p held; cases k <;> cases held
    | device => intro k p held; cases k <;> cases held

/-! ## The position and the setup -/

theorem positionSound_same {s t : State} (same : SameButSlices t s) (sound : positionSound s) : positionSound t := by
  rw [positionSound, same.chu, same.mku]; exact sound

theorem positionSound_invariant : StepInvariant positionSound where
  queue s q n sound := sound
  clock s sound := sound
  wait := by
    rintro s _ ⟨p, q, echo, -, rfl⟩ sound
    simpa [positionSound] using sound
  move := by
    intro s t one sound
    cases one with
    | aside => exact sound
    | latches f => exact sound
    | port p m => simpa [positionSound] using sound
    | lock => exact sound
    | down p =>
      obtain ⟨e, m, table, freed⟩ := forcedRelease_eq p (s.setPort p { s.port p with link := .down })
      have kept : (forcedRelease p (s.setPort p { s.port p with link := .down })).mku.table = s.mku.table := by
        rw [freed]; split <;> simp_all
      have stands : (forcedRelease p (s.setPort p { s.port p with link := .down })).chu = s.chu := by
        rw [freed]; split <;> simp
      rw [positionSound, kept, stands]; exact sound
    | slices => exact sound
    | run => exact positionSound_same (setRun_same _ s) sound
    | close x rest c stop =>
      exact positionSound_same (reportClass_same _ _ _)
        (positionSound_same (sameButSlices (appendPending_slices c rest s)) sound)
    | abort => exact positionSound_same (setRun_same _ _) (positionSound_same (abandonCommit_same _) sound)
    | position c m kept => exact positionSound_same (evaluateAdvice_same _) (kept sound)
    | track c m quality kept => exact kept sound
    | head h r => exact positionSound_same (evaluateAdvice_same _) (by simpa [positionSound] using sound)
    | count h r => simpa [positionSound] using sound
    | setup => exact positionSound_same (evaluateAdvice_same _) sound
    | entry => exact sound
    | cursor => exact sound
    | retry => exact positionSound_same (retryEvent_same s) sound
    | commit x rest => exact positionSound_same (makeCommit_same x rest s) sound
    | refuse => exact positionSound_same (refuseCommit_same s) sound
    | serve p q echo =>
      exact positionSound_same (grantAndServe_same p q echo s) (by simpa [positionSound, putAnswer] using sound)
    | clearStop p => exact positionSound_same (sameButSlices (clearStopLatch_slices p s)) sound
    | soft => exact ⟨Nat.zero_le _, sound.2⟩
    | device l r =>
      refine ⟨Nat.zero_le _, fun e member => ?_⟩
      have blank : (resetDevice l r s).mku.table.toList = List.replicate 256 MarkerEntry.reset := Vector.toList_replicate
      rw [blank] at member
      rw [List.eq_of_mem_replicate member]
      exact Nat.zero_le _

theorem setupSound_reset : setupSound Setup.reset := by
  intro e
  cases e <;> (try casesm* Channel, HeadId, PortId) <;>
    simp only [valueSound, entryRange] <;> decide

theorem setupSound_invariant : StepInvariant fun s => setupSound s.setup where
  queue s q n sound := sound
  clock s sound := sound
  wait := by
    rintro s _ ⟨p, q, echo, -, rfl⟩ sound
    simpa using sound
  move := by
    intro s t one sound
    have stands : ∀ {u : State}, SameButSlices u s → setupSound u.setup := fun same => same.setup ▸ sound
    cases one with
    | aside => exact sound
    | latches f => exact sound
    | port p m => simpa using sound
    | lock => exact sound
    | down p =>
      obtain ⟨e, m, -, freed⟩ := forcedRelease_eq p (s.setPort p { s.port p with link := .down })
      rw [freed]
      split <;> simpa using sound
    | slices => exact sound
    | run => exact stands (setRun_same _ s)
    | close x rest c stop =>
      rw [(reportClass_same _ _ _).setup]
      exact stands (sameButSlices (appendPending_slices c rest s))
    | abort => rw [(setRun_same _ _).setup, (abandonCommit_same _).setup]; exact sound
    | position c m kept => rw [evaluateAdvice_setup]; exact sound
    | track => exact sound
    | head h r => rw [evaluateAdvice_setup, setHead_setup]; exact sound
    | count h r => rw [setHead_setup]; exact sound
    | setup u kept => rw [evaluateAdvice_setup]; exact kept sound
    | entry u inputs kept => exact kept sound
    | cursor => exact sound
    | retry => exact stands (retryEvent_same s)
    | commit x rest => exact stands (makeCommit_same x rest s)
    | refuse => exact stands (refuseCommit_same s)
    | serve p q echo =>
      rw [(grantAndServe_same p q echo s).setup, putAnswer, setSlot_setup]; exact sound
    | clearStop p => exact stands (sameButSlices (clearStopLatch_slices p s))
    | soft => exact sound
    | device => exact setupSound_reset

/-- Settles O54: each of the three is an invariant of every move. -/
theorem everyStepKeepsLocksAndRanges : Obligations.EveryStepKeepsLocksAndRanges := by
  intro s t taken
  exact ⟨locksUp_invariant.step taken, positionSound_invariant.step taken, setupSound_invariant.step taken⟩

/-! ## The heads -/

theorem headsSound_same {s t : State} (same : SameButSlices t s) (sound : headsSound s) : headsSound t := by
  intro h
  rw [same.head]
  exact sound h

theorem headsSound_setHead {h : HeadId} {r : HeadReceiver} {s : State} (kept : headSound (s.head h) → headSound r)
    (sound : headsSound s) : headsSound (s.setHead h r) := by
  intro g
  rw [setHead_head]
  split
  · exact kept (sound h)
  · exact sound g

theorem headsSound_of_heads {s t : State} (heads : ∀ h, t.head h = s.head h) (sound : headsSound s) : headsSound t := by
  intro h
  rw [heads]
  exact sound h

theorem countDown_isSome (t : Option Nat) : (countDown t).isSome = t.isSome := by
  unfold countDown; split <;> rfl

theorem headSound_tickHead {r : HeadReceiver} (sound : headSound r) : headSound (tickHead r) := by
  obtain ⟨settle, attempt, watchdog, rest⟩ := sound
  exact ⟨(countDown_isSome _).trans settle, (countDown_isSome _).trans attempt, (countDown_isSome _).trans watchdog, rest⟩

/-- A head in OFF at any rate is sound (R24). -/
theorem headSound_off (rate : Rate) : headSound { HeadReceiver.reset with rate := rate } := by
  simp [headSound, HeadReceiver.reset]

theorem headsSound_invariant : StepInvariant headsSound where
  queue s q n sound := sound
  clock s sound := by
    intro h
    cases h with
    | h1 => exact headSound_tickHead (sound .h1)
    | h2 => exact headSound_tickHead (sound .h2)
  wait := by
    rintro s _ ⟨p, q, echo, -, rfl⟩ sound
    exact headsSound_of_heads (fun h => by rw [setSlot, setPort_head]) sound
  move := by
    intro s t one sound
    cases one with
    | aside => exact sound
    | latches f => exact sound
    | port p m => exact headsSound_of_heads (fun h => setPort_head s p m h) sound
    | lock => exact sound
    | down p =>
      obtain ⟨e, m, -, freed⟩ := forcedRelease_eq p (s.setPort p { s.port p with link := .down })
      refine headsSound_of_heads (fun h => ?_) sound
      rw [freed]
      split
      · rw [raiseAll_head]; exact setPort_head s p _ h
      · exact setPort_head s p _ h
    | slices => exact sound
    | run => exact headsSound_same (setRun_same _ s) sound
    | close x rest c stop =>
      exact headsSound_same (reportClass_same _ _ _) (headsSound_same (sameButSlices (appendPending_slices c rest s)) sound)
    | abort => exact headsSound_same (setRun_same _ _) (headsSound_same (abandonCommit_same _) sound)
    | position => exact headsSound_same (evaluateAdvice_same _) sound
    | track => exact sound
    | head h r kept => exact headsSound_same (evaluateAdvice_same _) (headsSound_setHead kept sound)
    | count h r inputs kept => exact headsSound_setHead kept sound
    | setup => exact headsSound_same (evaluateAdvice_same _) sound
    | entry => exact sound
    | cursor => exact sound
    | retry => exact headsSound_same (retryEvent_same s) sound
    | commit x rest => exact headsSound_same (makeCommit_same x rest s) sound
    | refuse => exact headsSound_same (refuseCommit_same s) sound
    | serve p q echo =>
      exact headsSound_same (grantAndServe_same p q echo s)
        (headsSound_of_heads (fun h => by rw [putAnswer, setSlot, setPort_head]) sound)
    | clearStop p => exact headsSound_same (sameButSlices (clearStopLatch_slices p s)) sound
    | soft => intro h; cases h <;> exact headSound_off _
    | device => intro h; cases h <;> exact headSound_off _

/-- Settles O55: sound heads are an invariant of every move. -/
theorem everyStepKeepsTheHeadsSound : Obligations.EveryStepKeepsTheHeadsSound :=
  fun _ _ sound taken => headsSound_invariant.step taken sound

/-! ## The queue of commands -/

theorem Move.pending {s t : State} (one : Move s t) : t.pending = s.pending := by
  cases one with
  | aside => rfl
  | latches f => rfl
  | port p m => exact setPort_pending s p m
  | lock => rfl
  | down p =>
    obtain ⟨e, m, -, freed⟩ := forcedRelease_eq p (s.setPort p { s.port p with link := .down })
    rw [freed]
    split <;> simp
  | slices => rfl
  | run => exact (setRun_same _ s).pending
  | close x rest c stop =>
    exact (reportClass_same _ _ _).pending.trans (sameButSlices (appendPending_slices c rest s)).pending
  | abort => exact (setRun_same _ _).pending.trans (abandonCommit_same _).pending
  | position => exact evaluateAdvice_pending _
  | track => rfl
  | head h r => rw [evaluateAdvice_pending, setHead_pending]
  | count h r => exact setHead_pending s h r
  | setup => exact evaluateAdvice_pending _
  | entry => rfl
  | cursor => rfl
  | retry => exact (retryEvent_same s).pending
  | commit x rest => exact (makeCommit_same x rest s).pending
  | refuse => exact (refuseCommit_same s).pending
  | serve p q echo => rw [(grantAndServe_same p q echo s).pending, putAnswer, setSlot_pending]
  | clearStop p => exact (sameButSlices (clearStopLatch_slices p s)).pending
  | soft => rfl
  | device => rfl

theorem Reached.pending {s t : State} (reached : Reached s t) : t.pending = s.pending := by
  have chained : ∀ {u : State}, Moves s u → u.pending = s.pending := fun chain =>
    chain.keeps (P := fun u => u.pending = s.pending) (fun one same => one.pending.trans same) rfl
  rcases reached with chain | ⟨a, chain, p, q, echo, -, rfl⟩
  · exact chained chain
  · rw [setSlot_pending, chained chain]

/-- Settles O2: every command is a chain of moves, and a move leaves the queue. -/
theorem everyCommandAnswersAndKeepsTheQueue : Obligations.EveryCommandAnswersAndKeepsTheQueue := by
  intro c s
  obtain ⟨t, run, reached⟩ := exec_reached c s
  exact ⟨t, run, reached.pending⟩

end Sys2Proof.Machine

/-! O56: what every step keeps of the records and the cursors. -/

namespace Sys2Proof.Machine

/-! ## The contents of the store: records, next sequence number and cursors -/

/-- The store without its arbiter. -/
def contents (t : ProfileStore) : ProfileStore :=
  { ProfileStore.reset with records := t.records, nextSeq := t.nextSeq, cursor0 := t.cursor0, cursor1 := t.cursor1,
                            cursor2 := t.cursor2 }

theorem contents_cursor (t : ProfileStore) (p : PortId) : (contents t).cursor p = t.cursor p := by cases p <;> rfl

theorem cursor_of_contents {a b : ProfileStore} (same : contents a = contents b) (p : PortId) : a.cursor p = b.cursor p := by
  rw [← contents_cursor a, same, contents_cursor]
theorem records_of_contents {a b : ProfileStore} (same : contents a = contents b) : a.records = b.records :=
  (congrArg ProfileStore.records same :)
theorem nextSeq_of_contents {a b : ProfileStore} (same : contents a = contents b) : a.nextSeq = b.nextSeq :=
  (congrArg ProfileStore.nextSeq same :)

@[simp] theorem setRun_pst (r : RunState) (s : State) : (setRun r s).pst = s.pst := by unfold setRun; split <;> simp

@[simp] theorem askCommit_contents (s : State) : contents (askCommit s).pst = contents s.pst := by
  unfold askCommit; split <;> rfl
@[simp] theorem retryEvent_contents (s : State) : contents (retryEvent s).pst = contents s.pst := by
  unfold retryEvent
  split
  · split
    · rfl
    · exact askCommit_contents s
  · split <;> rfl
@[simp] theorem grantNextPort_contents (s : State) : contents (grantNextPort s).pst = contents s.pst := by
  unfold grantNextPort; split <;> rfl
@[simp] theorem releaseByPort_contents (s : State) : contents (releaseByPort s).pst = contents s.pst := by
  unfold releaseByPort
  split
  · rfl
  · exact grantNextPort_contents s
@[simp] theorem endCommitHold_contents (s : State) : contents (endCommitHold s).pst = contents s.pst :=
  grantNextPort_contents _
@[simp] theorem abandonCommit_contents (s : State) : contents (abandonCommit s).pst = contents s.pst := by
  unfold abandonCommit
  dsimp only
  split
  · exact endCommitHold_contents _
  · rfl
@[simp] theorem releaseByCommit_contents (s : State) : contents (releaseByCommit s).pst = contents s.pst := by
  unfold releaseByCommit
  dsimp only
  split
  · exact endCommitHold_contents s
  · rw [askCommit_contents]; exact endCommitHold_contents s
@[simp] theorem refuseCommit_contents (s : State) : contents (refuseCommit s).pst = contents s.pst := by
  unfold refuseCommit
  dsimp only
  split
  · rw [askCommit_contents]; exact endCommitHold_contents s
  · exact endCommitHold_contents s
@[simp] theorem appendPending_contents (x : PendingSlice) (rest : List OpenSlice) (s : State) :
    contents (appendPending x rest s).pst = contents s.pst := by
  unfold appendPending
  dsimp only
  split <;> simp

@[simp] theorem drainEnd_pst (s : State) : (drainEnd s).pst = s.pst := by unfold drainEnd; split <;> simp
@[simp] theorem raiseHigh_pst (before : Nat) (s : State) : (raiseHigh before s).pst = s.pst := by
  unfold raiseHigh; split <;> rfl
@[simp] theorem raiseClass_pst (c : SectorState) (s : State) : (raiseClass c s).pst = s.pst := by cases c <;> rfl

/-- The records and the cursors after a commit (R137, R138). -/
theorem makeCommit_contents (x : PendingSlice) (rest : List PendingSlice) (s : State) :
    contents (makeCommit x rest s).pst =
      contents (storeRecord x rest (if fill s.pst = Config.storeCapacity then evictOldest s else s)).pst := by
  simp only [makeCommit, releaseByCommit_contents, drainEnd_pst, evaluateAdvice_pst, raiseHigh_pst, raiseClass_pst]
  rfl

theorem moveCursor_contents (p : PortId) (n : SeqNo) (s : State) :
    contents (moveCursor p n s).pst = contents (s.pst.setCursor p { s.pst.cursor p with position := n }) :=
  retryEvent_contents _

/-- The records and the cursors after a granted request are those of its work (R150). -/
theorem grantAndServe_contents (p : PortId) (q : StoreRequest) (echo : Byte) (s : State) :
    contents (grantAndServe p q echo s).pst = contents (serveRequest p q (grantPort p s)).1.pst := by
  simp [grantAndServe, putAnswer]

/-! ## Sequence numbers -/

theorem storeSound_congr {a b : ProfileStore} (same : contents a = contents b) (sound : storeSound b) : storeSound a := by
  obtain ⟨bound, lengths, places⟩ := sound
  have records := records_of_contents same
  refine ⟨by rwa [fill, records], by rwa [records], fun p => ?_⟩
  rw [seqOffset, oldestSeq, fill, records, nextSeq_of_contents same, cursor_of_contents same]
  exact places p

theorem seqOffset_oldest (t : ProfileStore) : seqOffset t (oldestSeq t) = 0 := by simp [seqOffset]

theorem seqOffset_add {t : ProfileStore} {n : SeqNo} {k : Nat} (small : seqOffset t n + k < 2 ^ 32) :
    seqOffset t (n + BitVec.ofNat 32 k) = seqOffset t n + k := by
  unfold seqOffset at *
  generalize oldestSeq t = o at *
  bv_omega

theorem seqOffset_next {t : ProfileStore} (small : fill t < 2 ^ 32) : seqOffset t t.nextSeq = fill t := by
  unfold seqOffset oldestSeq
  bv_omega

/-- A record stored under the next number leaves the oldest where it was. -/
theorem seqOffset_stored {a b : ProfileStore} (longer : fill b = fill a + 1) (next : b.nextSeq = a.nextSeq + 1) (n : SeqNo) :
    seqOffset b n = seqOffset a n := by
  unfold seqOffset oldestSeq
  rw [longer, next]
  bv_omega

/-- The next oldest record is one on from the evicted one. -/
theorem seqOffset_evicted {a b : ProfileStore} (shorter : fill a = fill b + 1) (next : b.nextSeq = a.nextSeq) {n : SeqNo}
    (later : seqOffset a n ≠ 0) : seqOffset b n = seqOffset a n - 1 := by
  unfold seqOffset oldestSeq at *
  rw [next, shorter] at *
  generalize fill b = f at *
  bv_omega

theorem seqOffset_eq_zero_iff (t : ProfileStore) (n : SeqNo) : seqOffset t n = 0 ↔ n = oldestSeq t := by
  unfold seqOffset
  generalize oldestSeq t = o
  constructor <;> intro same <;> bv_omega

theorem placeOf_held {t : ProfileStore} {n : SeqNo} (held : seqOffset t n < fill t) : placeOf t n = .held (seqOffset t n) :=
  if_pos held
theorem placeOf_next {t : ProfileStore} {n : SeqNo} (next : seqOffset t n = fill t) : placeOf t n = .newestPlusOne := by
  unfold placeOf
  rw [if_neg (by omega), if_pos next]
theorem placeOf_above {t : ProfileStore} {n : SeqNo} (out : fill t < seqOffset t n) (above : (n - t.nextSeq).toNat < 2 ^ 31) :
    placeOf t n = .above := by
  unfold placeOf
  rw [if_neg (by omega), if_neg (by omega), if_pos above]
theorem placeOf_below {t : ProfileStore} {n : SeqNo} (out : fill t < seqOffset t n) (below : ¬ (n - t.nextSeq).toNat < 2 ^ 31) :
    placeOf t n = .below := by
  unfold placeOf
  rw [if_neg (by omega), if_neg (by omega), if_neg below]

/-! ## A commit -/

theorem sectorBytes_length (r : SectorResult) : (sectorBytes r).length = 6 := by simp [sectorBytes]

theorem headPartBytes_length (q : Option HeadPart) : (headPartBytes q).length = 16 := by
  cases q <;> simp [headPartBytes]

theorem sectorBytes_flatten_length (x : PendingSlice) : ((x.sectors.toList.map sectorBytes).flatten).length = 384 := by
  rw [List.length_flatten, List.map_map]
  simp [Function.comp_def, sectorBytes_length]

/-- Every record has 480 bytes (R97, Table 11-6). -/
theorem recordImage_length (l : Nat) (n : SeqNo) (x : PendingSlice) : (recordImage l n x).length = 480 := by
  unfold recordImage
  simp only [List.length_append, bytesOf_length, sectorBytes_flatten_length, headPartBytes_length, List.length_replicate]

theorem fill_evictOldest (s : State) : fill (evictOldest s).pst = fill s.pst - 1 := by
  simp [fill, evictOldest, raiseMissed]

theorem evictOldest_cursor (s : State) (p : PortId) :
    (evictOldest s).pst.cursor p = carryCursor (oldestSeq s.pst) (s.pst.cursor p) := by cases p <;> rfl

/-- An eviction keeps every cursor within the store (R138). -/
theorem storeSound_evictOldest {s : State} (full : fill s.pst = Config.storeCapacity) (sound : storeSound s.pst) :
    storeSound (evictOldest s).pst := by
  obtain ⟨bound, lengths, places⟩ := sound
  have shorter : fill s.pst = fill (evictOldest s).pst + 1 := by rw [fill_evictOldest, full]; rfl
  have next : (evictOldest s).pst.nextSeq = s.pst.nextSeq := rfl
  refine ⟨by omega, fun r member => lengths r (List.mem_of_mem_tail member), fun p => ?_⟩
  rw [evictOldest_cursor, carryCursor]
  split
  · have moved : seqOffset s.pst (oldestSeq s.pst + BitVec.ofNat 32 1) = 1 := by
      rw [seqOffset_add (by simp [seqOffset_oldest]), seqOffset_oldest]
    rw [seqOffset_evicted shorter next (by rw [show (1 : SeqNo) = BitVec.ofNat 32 1 from rfl, moved]; decide),
      show (1 : SeqNo) = BitVec.ofNat 32 1 from rfl, moved]
    exact Nat.zero_le _
  · rename_i elsewhere
    rw [seqOffset_evicted shorter next (fun zero => elsewhere ((seqOffset_eq_zero_iff _ _).1 zero))]
    have := places p
    omega

theorem storeSound_storeRecord {x : PendingSlice} {rest : List PendingSlice} {s : State} (room : fill s.pst < Config.storeCapacity)
    (sound : storeSound s.pst) : storeSound (storeRecord x rest s).pst := by
  obtain ⟨bound, lengths, places⟩ := sound
  have longer : fill (storeRecord x rest s).pst = fill s.pst + 1 := by simp [fill, storeRecord]
  refine ⟨by rw [longer]; exact room, fun r member => ?_, fun p => ?_⟩
  · rcases List.mem_append.1 member with old | new
    · exact lengths r old
    · rw [List.mem_singleton.1 new]; exact recordImage_length _ _ _
  · rw [seqOffset_stored longer rfl, longer]
    exact Nat.le_succ_of_le (places p)

theorem storeSound_makeCommit {x : PendingSlice} {rest : List PendingSlice} {s : State} (sound : storeSound s.pst) :
    storeSound (makeCommit x rest s).pst := by
  refine storeSound_congr (makeCommit_contents x rest s) (storeSound_storeRecord ?_ ?_)
  · split
    · rename_i full
      rw [fill_evictOldest, full]; decide
    · rename_i room
      exact Nat.lt_of_le_of_ne sound.1 room
  · split
    · rename_i full
      exact storeSound_evictOldest full sound
    · exact sound

/-! ## A granted request -/

theorem storeSound_setCursor {t : ProfileStore} {p : PortId} {c : Cursor} (place : seqOffset t c.position ≤ fill t)
    (sound : storeSound t) : storeSound (t.setCursor p c) := by
  obtain ⟨bound, lengths, places⟩ := sound
  have standing : ∀ n, seqOffset (t.setCursor p c) n = seqOffset t n := fun n => by simp [seqOffset, oldestSeq, fill]
  refine ⟨by simpa [fill] using bound, by simpa using lengths, fun q => ?_⟩
  rw [standing, setCursor_cursor, show fill (t.setCursor p c) = fill t by simp [fill]]
  split
  · exact place
  · exact places q

theorem storeSound_moveCursor {p : PortId} {n : SeqNo} {s : State} (place : seqOffset s.pst n ≤ fill s.pst)
    (sound : storeSound s.pst) : storeSound (moveCursor p n s).pst :=
  storeSound_congr (moveCursor_contents p n s) (storeSound_setCursor place sound)

/-- A cursor moves past no more than the records it has before it (R142, R143). -/
theorem recordsAt_place {p : PortId} {n : Nat} {s : State} (sound : storeSound s.pst) :
    seqOffset s.pst ((s.pst.cursor p).position + BitVec.ofNat 32 (recordsAt p n s).length) ≤ fill s.pst := by
  obtain ⟨bound, -, places⟩ := sound
  have few : (recordsAt p n s).length ≤ fill s.pst - seqOffset s.pst (s.pst.cursor p).position := by
    simp only [recordsAt, List.length_take, List.length_drop, fill]
    exact Nat.min_le_right _ _
  have place := places p
  have small : fill s.pst < 2 ^ 32 := lt_of_le_of_lt bound (by decide)
  rw [seqOffset_add (by omega)]
  omega

/-- SET CURSOR puts a cursor between the oldest record and newest + 1 (R145). -/
theorem cursorGoal_place {t : ProfileStore} (target : CursorTarget) (bound : fill t ≤ Config.storeCapacity) :
    seqOffset t (cursorGoal t target).1 ≤ fill t := by
  have next : seqOffset t t.nextSeq ≤ fill t := (seqOffset_next (lt_of_le_of_lt bound (by decide))).le
  have oldest : seqOffset t (oldestSeq t) ≤ fill t := (seqOffset_oldest t).trans_le (Nat.zero_le _)
  cases target with
  | oldest => exact oldest
  | newestPlusOne => exact next
  | number n =>
    rcases lt_trichotomy (seqOffset t n) (fill t) with held | one | out
    · simp only [cursorGoal, placeOf_held held]; exact held.le
    · simp only [cursorGoal, placeOf_next one]; exact one.le
    · by_cases above : (n - t.nextSeq).toNat < 2 ^ 31
      · simp only [cursorGoal, placeOf_above out above]; exact next
      · simp only [cursorGoal, placeOf_below out above]; exact oldest

theorem storeSound_serveClear {s : State} : storeSound (serveClear s).1.pst := by
  unfold serveClear
  refine storeSound_congr (retryEvent_contents _) ?_
  rw [evaluateAdvice_pst]
  refine ⟨Nat.zero_le _, by simp, fun p => ?_⟩
  cases p <;> simp [seqOffset, oldestSeq, fill, clearCursor, ProfileStore.cursor]

theorem storeSound_serveRequest {p : PortId} {q : StoreRequest} {s : State} (sound : storeSound s.pst) :
    storeSound (serveRequest p q s).1.pst := by
  cases q with
  | readNext =>
    simp only [serveRequest, serveReadNext]
    split
    · exact sound
    · rename_i x rest read
      refine storeSound_moveCursor ?_ sound
      have one : (recordsAt p 1 s).length = 1 := by
        have : (recordsAt p 1 s).length ≤ 1 := List.length_take_le _ _
        rw [read] at this ⊢
        simpa using this
      have place := recordsAt_place (p := p) (n := 1) sound
      rwa [one] at place
  | readBlock count =>
    simp only [serveRequest, serveReadBlock]
    split
    · exact sound
    · exact storeSound_moveCursor (recordsAt_place sound) sound
  | peek n =>
    simp only [serveRequest, servePeek]
    split <;> exact sound
  | setCursor target => exact storeSound_moveCursor (cursorGoal_place target sound.1) sound
  | clear => exact storeSound_serveClear

/-! ## Every move -/

theorem storeSound_reset : storeSound ProfileStore.reset := by
  refine ⟨Nat.zero_le _, by simp [ProfileStore.reset], fun p => ?_⟩
  cases p <;> decide

theorem storeSound_invariant : StepInvariant fun s => storeSound s.pst where
  queue s q n sound := sound
  clock s sound := sound
  wait := by
    rintro s _ ⟨p, q, echo, -, rfl⟩ sound
    simpa using sound
  move := by
    intro s t one sound
    cases one with
    | aside => exact sound
    | latches f => exact sound
    | port p m => simpa using sound
    | lock => exact sound
    | down p =>
      obtain ⟨e, m, -, freed⟩ := forcedRelease_eq p (s.setPort p { s.port p with link := .down })
      rw [freed]
      split <;> simpa using sound
    | slices => exact sound
    | run => rw [setRun_pst]; exact sound
    | close x rest c stop =>
      rw [reportClass_pst]
      exact storeSound_congr (appendPending_contents c rest s) sound
    | abort =>
      rw [setRun_pst]
      exact storeSound_congr (abandonCommit_contents _) sound
    | position => rw [evaluateAdvice_pst]; exact sound
    | track => exact sound
    | head h r => rw [evaluateAdvice_pst, setHead_pst]; exact sound
    | count h r => rw [setHead_pst]; exact sound
    | setup => rw [evaluateAdvice_pst]; exact sound
    | entry => exact sound
    | cursor p c place => exact storeSound_setCursor (place sound) sound
    | retry => exact storeSound_congr (retryEvent_contents s) sound
    | commit x rest => exact storeSound_makeCommit sound
    | refuse => exact storeSound_congr (refuseCommit_contents s) sound
    | serve p q echo =>
      refine storeSound_congr (grantAndServe_contents p q echo s) (storeSound_serveRequest ?_)
      exact storeSound_congr (a := (grantPort p s).pst) (by rfl) sound
    | clearStop p =>
      have same : (clearStopLatch p s).pst = s.pst := by unfold clearStopLatch; split <;> simp
      rw [same]; exact sound
    | soft => exact storeSound_reset
    | device => exact storeSound_reset

/-- Settles O56: the bounds of the store are an invariant of every move. -/
theorem everyStepKeepsTheStoreSound : Obligations.EveryStepKeepsTheStoreSound :=
  fun _ _ sound taken => storeSound_invariant.step taken sound

end Sys2Proof.Machine

/-! O57, O58: what every step keeps of the queue of slices and of the commit path. -/

namespace Sys2Proof.Machine

/-! ## The Slice Builder after a move -/

theorem setRun_slb (r : RunState) (s : State) : (setRun r s).slb = { s.slb with run := r } := by
  unfold setRun
  split
  · rename_i same; rw [← same]
  · simp

@[simp] theorem grantNextPort_slb (s : State) : (grantNextPort s).slb = s.slb := by unfold grantNextPort; split <;> rfl
@[simp] theorem releaseByPort_slb (s : State) : (releaseByPort s).slb = s.slb := by
  unfold releaseByPort
  split
  · rfl
  · exact grantNextPort_slb s
@[simp] theorem endCommitHold_slb (s : State) : (endCommitHold s).slb = s.slb := grantNextPort_slb _
@[simp] theorem abandonCommit_slb (s : State) : (abandonCommit s).slb = s.slb := by
  unfold abandonCommit
  dsimp only
  split
  · exact endCommitHold_slb _
  · rfl
@[simp] theorem releaseByCommit_slb (s : State) : (releaseByCommit s).slb = s.slb := by
  unfold releaseByCommit
  dsimp only
  split <;> simp
@[simp] theorem refuseCommit_slb (s : State) : (refuseCommit s).slb = s.slb := by
  unfold refuseCommit
  dsimp only
  split <;> simp
@[simp] theorem moveCursor_slb (p : PortId) (n : SeqNo) (s : State) : (moveCursor p n s).slb = s.slb := by
  rw [moveCursor, retryEvent_slb]; rfl
@[simp] theorem serveRequest_slb (p : PortId) (q : StoreRequest) (s : State) : (serveRequest p q s).1.slb = s.slb := by
  cases q with
  | readNext => simp only [serveRequest, serveReadNext]; split <;> simp
  | readBlock count => simp only [serveRequest, serveReadBlock]; split <;> simp
  | peek n => simp only [serveRequest, servePeek]; split <;> rfl
  | setCursor target => exact moveCursor_slb _ _ s
  | clear => simp [serveRequest, serveClear]
@[simp] theorem grantAndServe_slb (p : PortId) (q : StoreRequest) (echo : Byte) (s : State) :
    (grantAndServe p q echo s).slb = s.slb := by
  simp [grantAndServe, putAnswer, grantPort]
@[simp] theorem clearStopLatch_slb (p : PortId) (s : State) : (clearStopLatch p s).slb = s.slb := by
  unfold clearStopLatch; split <;> simp
@[simp] theorem clearStopLatch_pst (p : PortId) (s : State) : (clearStopLatch p s).pst = s.pst := by
  unfold clearStopLatch; split <;> simp

@[simp] theorem raiseHigh_slb (before : Nat) (s : State) : (raiseHigh before s).slb = s.slb := by
  unfold raiseHigh; split <;> rfl
@[simp] theorem raiseClass_slb (c : SectorState) (s : State) : (raiseClass c s).slb = s.slb := by cases c <;> rfl

theorem drainEnd_slb (s : State) :
    (drainEnd s).slb = if s.slb.run = .draining ∧ queueEmpty s = true then { s.slb with run := .idle } else s.slb := by
  unfold drainEnd; split
  · exact setRun_slb _ _
  · rfl

/-- A commit takes the slice from the queue, and ends a DRAINING run with the last one (R76, R137). -/
theorem makeCommit_slb (x : PendingSlice) (rest : List PendingSlice) (s : State) :
    (makeCommit x rest s).slb =
      { s.slb with
        pendingSlices := rest,
        run := if s.slb.run = .draining ∧ s.slb.openSlices = [] ∧ rest = [] then .idle else s.slb.run } := by
  have evicted : (if fill s.pst = Config.storeCapacity then evictOldest s else s).slb = s.slb := by split <;> rfl
  simp only [makeCommit, releaseByCommit_slb, drainEnd_slb, evaluateAdvice_slb, raiseHigh_slb, raiseClass_slb, storeRecord,
    raiseData, mapPorts_slb, evicted, queueEmpty, Bool.and_eq_true, List.isEmpty_iff]
  split <;> rfl

/-- What the forced release of a link leaves of the store, the queue, the advice and the rest. -/
theorem down_fields (p : PortId) (s : State) :
    (forcedRelease p (s.setPort p { s.port p with link := .down })).slb = s.slb ∧
      (forcedRelease p (s.setPort p { s.port p with link := .down })).pst = s.pst ∧
      (forcedRelease p (s.setPort p { s.port p with link := .down })).adv = s.adv ∧
      (forcedRelease p (s.setPort p { s.port p with link := .down })).chu = s.chu ∧
      (forcedRelease p (s.setPort p { s.port p with link := .down })).setup = s.setup ∧
      ∀ h, (forcedRelease p (s.setPort p { s.port p with link := .down })).head h = s.head h := by
  obtain ⟨e, m, -, freed⟩ := forcedRelease_eq p (s.setPort p { s.port p with link := .down })
  rw [freed]
  split
  · refine ⟨by simp, by simp, by simp, by simp, by simp, fun h => ?_⟩
    rw [raiseAll_head]; exact setPort_head s p _ h
  · exact ⟨by simp, by simp, by simp, by simp, by simp, fun h => setPort_head s p _ h⟩

/-! ## The queue in order -/

/-- The rearmost open slice becomes the newest pending one (R85, R93). -/
theorem queueSound_close {b : SliceBuilder} {x : OpenSlice} {rest : List OpenSlice} {c : PendingSlice}
    (front : b.openSlices = x :: rest) (index : c.header.index = x.header.index) (sound : queueSound b) :
    queueSound { b with openSlices := rest, pendingSlices := b.pendingSlices ++ [c], lastClosed := some c.header.index } := by
  obtain ⟨opens, total, idle, draining, ordered⟩ := sound
  have nonempty : b.openSlices ≠ [] := by simp [front]
  rw [front] at opens total
  refine ⟨by simp at opens ⊢; omega, by simp at total ⊢; omega, fun run => absurd (idle run).1 nonempty,
    fun run => absurd (draining run).1 nonempty, ?_⟩
  unfold openOrdered at ordered ⊢
  cases direction : b.direction with
  | none => rw [direction] at ordered; exact absurd ordered nonempty
  | some d =>
    rw [direction, front] at ordered
    obtain ⟨pairwise, along, -⟩ := ordered
    obtain ⟨ahead, pairwise⟩ := List.pairwise_cons.1 pairwise
    refine ⟨pairwise, fun y member => along y (List.mem_cons_of_mem x member), ?_⟩
    rintro k ⟨⟩ y member
    rw [index]
    exact ahead y member

theorem queueSound_commit {b : SliceBuilder} {x : PendingSlice} {rest : List PendingSlice} (oldest : b.pendingSlices = x :: rest)
    (sound : queueSound b) :
    queueSound { b with
      pendingSlices := rest, run := if b.run = .draining ∧ b.openSlices = [] ∧ rest = [] then .idle else b.run } := by
  obtain ⟨opens, total, idle, draining, ordered⟩ := sound
  rw [oldest] at total
  refine ⟨opens, by simp at total ⊢; omega, ?_, ?_, ordered⟩
  · intro run
    dsimp only at run ⊢
    split at run
    · rename_i last
      exact last.2
    · exact absurd (idle run).2 (by simp [oldest])
  · intro run
    dsimp only at run ⊢
    split at run
    · cases run
    · rename_i more
      obtain ⟨none, -⟩ := draining run
      exact ⟨none, fun empty => more ⟨run, none, empty⟩⟩

theorem queueSound_empty {b : SliceBuilder} (opened : b.openSlices = []) (pending : b.pendingSlices = [])
    (run : b.run ≠ .draining) : queueSound b := by
  refine ⟨by simp [opened], by simp [opened, pending], fun _ => ⟨opened, pending⟩, fun drains => absurd drains run, ?_⟩
  unfold openOrdered
  rw [opened]
  split <;> simp

theorem queueSound_invariant : StepInvariant fun s => queueSound s.slb where
  queue s q n sound := sound
  clock s sound := sound
  wait := by
    rintro s _ ⟨p, q, echo, -, rfl⟩ sound
    simpa using sound
  move := by
    intro s t one sound
    cases one with
    | aside => exact sound
    | latches f => exact sound
    | port p m => simpa using sound
    | lock => exact sound
    | down p => rw [(down_fields p s).1]; exact sound
    | slices b run pending kept => exact kept sound
    | run r kept => rw [setRun_slb]; exact kept sound
    | close x rest c stop front index =>
      rw [reportClass_slb, appendPending_slb]
      exact queueSound_close front index sound
    | abort =>
      rw [setRun_slb, abandonCommit_slb]
      exact queueSound_empty rfl rfl (by simp)
    | position => rw [evaluateAdvice_slb]; exact sound
    | track => exact sound
    | head h r => rw [evaluateAdvice_slb, setHead_slb]; exact sound
    | count h r => rw [setHead_slb]; exact sound
    | setup => rw [evaluateAdvice_slb]; exact sound
    | entry => exact sound
    | cursor => exact sound
    | retry => rw [retryEvent_slb]; exact sound
    | commit x rest held oldest => rw [makeCommit_slb]; exact queueSound_commit oldest sound
    | refuse => rw [refuseCommit_slb]; exact sound
    | serve p q echo => rw [grantAndServe_slb]; exact sound
    | clearStop p => rw [clearStopLatch_slb]; exact sound
    | soft => exact queueSound_empty rfl rfl (by simp [softValues, SliceBuilder.reset])
    | device => exact queueSound_empty rfl rfl (by simp [resetDevice, State.resetWith, SliceBuilder.reset])

/-- Settles O57: the order of the queue is an invariant of every move. -/
theorem everyStepKeepsTheQueueInOrder : Obligations.EveryStepKeepsTheQueueInOrder :=
  fun _ _ sound taken => queueSound_invariant.step taken sound

/-! ## The commit path at work -/

/-- With the arbiter sound, the commit path waits only for a holder, and nobody waits for a free store. -/
theorem commitSound_iff (s : State) :
    commitSound s ↔
      (s.slb.pendingSlices ≠ [] ↔ s.pst.holder = .commitPath ∨ s.pst.commitWaiting = true ∨ s.pst.commitBlocked = true) ∧
      (s.pst.holder = .commitPath → s.pst.commitWaiting = false ∧ s.pst.commitBlocked = false) ∧
      (s.pst.commitWaiting = true → s.pst.holder ≠ .none) ∧
      (∀ p, s.pst.holder = .port p → portWaiting s p = true) ∧
      (s.pst.holder = .none → ∀ p, portWaiting s p = false) := by
  unfold commitSound
  rw [anyPortWaiting_eq_false]
  refine and_congr_right fun _ => and_congr_right fun _ => ?_
  constructor
  · rintro ⟨waits, granted, free⟩
    refine ⟨fun asks none => ?_, granted, free⟩
    have held := waits asks
    rw [(storeFree_iff s).2 ⟨none, free none⟩] at held
    cases held
  · rintro ⟨waits, granted, free⟩
    refine ⟨fun asks => ?_, granted, free⟩
    rw [← Bool.not_eq_true, storeFree_iff]
    exact fun empty => waits asks empty.1

/-- With the arbiter sound, the store is free when nobody holds it. -/
theorem storeFree_of_commitSound {s : State} (sound : commitSound s) : storeFree s = true ↔ s.pst.holder = .none := by
  obtain ⟨-, -, -, -, free⟩ := (commitSound_iff s).1 sound
  rw [storeFree_iff]
  exact ⟨fun empty => empty.1, fun none => ⟨none, free none⟩⟩

theorem commitSound_congr {s t : State} (pending : t.slb.pendingSlices = s.slb.pendingSlices)
    (holder : t.pst.holder = s.pst.holder) (waiting : t.pst.commitWaiting = s.pst.commitWaiting)
    (blocked : t.pst.commitBlocked = s.pst.commitBlocked) (ports : ∀ p, portWaiting t p = portWaiting s p)
    (sound : commitSound s) : commitSound t := by
  rw [commitSound_iff] at sound ⊢
  simpa only [pending, holder, waiting, blocked, ports] using sound

/-- What leaves the slices and the store leaves the commit path. -/
theorem commitSound_same {s t : State} (same : SameButSlices t s) (slb : t.slb.pendingSlices = s.slb.pendingSlices)
    (pst : t.pst = s.pst) (sound : commitSound s) : commitSound t :=
  commitSound_congr slb (by rw [pst]) (by rw [pst]) (by rw [pst]) same.waiting sound

theorem nextWaiting_eq_none (s : State) : nextWaiting s = none ↔ ∀ p, portWaiting s p = false := by
  unfold nextWaiting
  rw [List.find?_eq_none]
  constructor
  · intro none p
    have member : p ∈ (match s.pst.lastGranted with
      | .p0 => [PortId.p1, .p2, .p0]
      | .p1 => [.p2, .p0, .p1]
      | .p2 => [.p0, .p1, .p2]) := by split <;> cases p <;> simp
    simpa using none p member
  · intro none p _
    simp [none p]

/-- What `grantNextPort` leaves: a waiting port holds the store, or nobody holds it and nobody waits (R149). -/
theorem grantNextPort_rests (s : State) :
    (grantNextPort s).pst.holder ≠ .commitPath ∧
      (∀ p, (grantNextPort s).pst.holder = .port p → portWaiting (grantNextPort s) p = true) ∧
      ((grantNextPort s).pst.holder = .none → ∀ p, portWaiting (grantNextPort s) p = false) ∧
      (grantNextPort s).pst.commitWaiting = s.pst.commitWaiting ∧
      (grantNextPort s).pst.commitBlocked = s.pst.commitBlocked := by
  simp only [(grantNextPort_same s).waiting]
  rcases grantNextPort_cases s with ⟨p, next, same⟩ | ⟨none, same⟩
  · rw [same]
    refine ⟨Holder.noConfusion, ?_, Holder.noConfusion, rfl, rfl⟩
    rintro q ⟨⟩
    exact nextWaiting_waits next
  · rw [same]
    exact ⟨Holder.noConfusion, fun q => Holder.noConfusion, fun _ => (nextWaiting_eq_none s).1 none, rfl, rfl⟩

/-- The commit path, which has a slice pending and neither holds the store nor is blocked, asks for the store. -/
theorem commitSound_askCommit {s : State} (pending : s.slb.pendingSlices ≠ []) (other : s.pst.holder ≠ .commitPath)
    (granted : ∀ p, s.pst.holder = .port p → portWaiting s p = true)
    (free : s.pst.holder = .none → ∀ p, portWaiting s p = false) : commitSound (askCommit s) := by
  rw [commitSound_iff]
  simp only [askCommit_slb, (askCommit_same s).waiting]
  unfold askCommit
  cases empty : storeFree s with
  | true =>
    refine ⟨by simp [grantCommit, pending], fun _ => ⟨rfl, rfl⟩, fun h => by simp [grantCommit] at h, ?_, ?_⟩ <;>
      simp [grantCommit]
  | false =>
    have held : s.pst.holder ≠ .none := fun none => by
      rw [(storeFree_iff s).2 ⟨none, free none⟩] at empty; cases empty
    exact ⟨by simp [pending], fun path => absurd path other, fun _ => held, granted, free⟩

theorem commitSound_retryEvent {s : State} (sound : commitSound s) : commitSound (retryEvent s) := by
  obtain ⟨work, alone, waits, granted, free⟩ := (commitSound_iff s).1 sound
  unfold retryEvent
  split
  · rename_i blocked
    split
    · exact sound
    · refine commitSound_askCommit (work.2 (.inr (.inr blocked))) (fun path => ?_) granted free
      rw [(alone path).2] at blocked
      cases blocked
  · split
    · exact commitSound_congr (s := s) rfl rfl rfl rfl (fun p => by cases p <;> rfl) sound
    · exact sound

theorem commitSound_appendPending {c : PendingSlice} {rest : List OpenSlice} {s : State} (sound : commitSound s) :
    commitSound (appendPending c rest s) := by
  obtain ⟨work, alone, waits, granted, free⟩ := (commitSound_iff s).1 sound
  unfold appendPending
  dsimp only
  split
  · rename_i first
    have rests : ¬ (s.pst.holder = .commitPath ∨ s.pst.commitWaiting = true ∨ s.pst.commitBlocked = true) :=
      fun atWork => work.2 atWork (List.isEmpty_iff.1 first)
    refine commitSound_askCommit ?_ ?_ ?_ ?_ <;>
      simp only [evaluateAdvice_slb, evaluateAdvice_pst, (evaluateAdvice_same _).waiting]
    · simp
    · exact fun path => rests (.inl path)
    · exact granted
    · exact free
  · rename_i more
    rw [List.isEmpty_iff] at more
    rw [commitSound_iff]
    simp only [evaluateAdvice_slb, evaluateAdvice_pst, (evaluateAdvice_same _).waiting]
    exact ⟨⟨fun _ => work.1 more, fun _ => by simp⟩, alone, waits, granted, free⟩

/-- A commit that gives up its hold leaves the store to the next waiting port. -/
theorem endCommitHold_rests (s : State) :
    (endCommitHold s).pst.holder ≠ .commitPath ∧
      (∀ p, (endCommitHold s).pst.holder = .port p → portWaiting (endCommitHold s) p = true) ∧
      ((endCommitHold s).pst.holder = .none → ∀ p, portWaiting (endCommitHold s) p = false) ∧
      (endCommitHold s).pst.commitWaiting = s.pst.commitWaiting ∧
      (endCommitHold s).pst.commitBlocked = s.pst.commitBlocked := grantNextPort_rests _

theorem commitSound_abort {s : State} (empty : s.slb.pendingSlices = []) (granted : ∀ p, s.pst.holder = .port p → portWaiting s p = true)
    (free : s.pst.holder = .none → ∀ p, portWaiting s p = false) : commitSound (abandonCommit s) := by
  rw [commitSound_iff]
  simp only [abandonCommit_slb, (abandonCommit_same s).waiting]
  unfold abandonCommit
  dsimp only
  split
  · obtain ⟨other, next, none, waiting, blocked⟩ := endCommitHold_rests
      { s with pst := { s.pst with commitWaiting := false, commitBlocked := false, testRefused := false, retryKept := false } }
    simp only [(endCommitHold_same _).waiting] at next none
    exact ⟨by simp [empty, other, waiting, blocked], fun path => absurd path other, by simp [waiting], next, none⟩
  · rename_i other
    exact ⟨by simp [empty, other], fun _ => ⟨rfl, rfl⟩, by simp, granted, free⟩

/-- The release at the end of a commit (R137, R149). -/
theorem commitSound_releaseByCommit {s : State} (waiting : s.pst.commitWaiting = false) (blocked : s.pst.commitBlocked = false) :
    commitSound (releaseByCommit s) := by
  obtain ⟨other, next, none, wait, block⟩ := endCommitHold_rests s
  rcases releaseByCommit_cases s with ⟨empty, same⟩ | ⟨more, asked⟩
  · rw [same, commitSound_iff]
    exact ⟨by rw [empty]; simp [other, wait, block, waiting, blocked], fun path => absurd path other, by simp [wait, waiting], next, none⟩
  · rw [asked]
    exact commitSound_askCommit more other next none

theorem commitSound_refuseCommit {s : State} (held : s.pst.holder = .commitPath) (some : s.slb.pendingSlices ≠ [])
    (sound : commitSound s) : commitSound (refuseCommit s) := by
  obtain ⟨-, alone, -⟩ := (commitSound_iff s).1 sound
  obtain ⟨other, next, none, wait, -⟩ := endCommitHold_rests s
  unfold refuseCommit
  dsimp only
  split
  · exact commitSound_askCommit (by rwa [endCommitHold_slb]) other next none
  · rw [commitSound_iff]
    refine ⟨⟨fun _ => .inr (.inr rfl), fun _ => ?_⟩, fun path => absurd path other, ?_, next, none⟩
    · change (endCommitHold s).slb.pendingSlices ≠ []
      rwa [endCommitHold_slb]
    · intro asks
      have : (endCommitHold s).pst.commitWaiting = true := asks
      rw [wait, (alone held).1] at this
      cases this

theorem commitSound_makeCommit {x : PendingSlice} {rest : List PendingSlice} {s : State} (held : s.pst.holder = .commitPath)
    (sound : commitSound s) : commitSound (makeCommit x rest s) := by
  obtain ⟨-, alone, -⟩ := (commitSound_iff s).1 sound
  obtain ⟨waiting, blocked⟩ := alone held
  refine commitSound_releaseByCommit ?_ ?_ <;>
    simp only [drainEnd_pst, evaluateAdvice_pst, raiseHigh_pst, raiseClass_pst]
  · split <;> exact waiting
  · split <;> exact blocked

/-- A retry event while a port holds the store only makes a blocked commit path wait (R139). -/
theorem retryEvent_of_port {p : PortId} {s : State} (held : s.pst.holder = .port p) :
    retryEvent s = { s with pst := { s.pst with commitWaiting := s.pst.commitWaiting || s.pst.commitBlocked } } := by
  have busy : storeFree s = false := by simp [storeFree, held]
  unfold retryEvent askCommit
  cases blocked : s.pst.commitBlocked with
  | false => rw [if_neg Bool.false_ne_true, if_neg (by simp [held]), Bool.or_false]
  | true =>
    rw [if_pos rfl, Bool.or_true, busy, if_neg Bool.false_ne_true]
    split
    · rename_i waiting
      rw [← waiting]
    · rfl

/-- What the work of a granted port can do to the arbiter: a blocked commit path begins to wait (R139, R150). -/
theorem serveRequest_arbiter {p h : PortId} {q : StoreRequest} {s : State} (held : s.pst.holder = .port h) :
    (serveRequest p q s).1.pst.holder = .port h ∧ (serveRequest p q s).1.pst.commitBlocked = s.pst.commitBlocked ∧
      ((serveRequest p q s).1.pst.commitWaiting = s.pst.commitWaiting ∨
        (serveRequest p q s).1.pst.commitWaiting = (s.pst.commitWaiting || s.pst.commitBlocked)) := by
  have moved : ∀ n, (moveCursor p n s).pst.holder = .port h ∧ (moveCursor p n s).pst.commitBlocked = s.pst.commitBlocked ∧
      ((moveCursor p n s).pst.commitWaiting = s.pst.commitWaiting ∨
        (moveCursor p n s).pst.commitWaiting = (s.pst.commitWaiting || s.pst.commitBlocked)) := fun n => by
    have still : (setCursorOf p { s.pst.cursor p with position := n } s).pst.holder = .port h := by
      simpa [setCursorOf] using held
    rw [moveCursor, retryEvent_of_port still]
    exact ⟨still, by simp [setCursorOf], .inr (by simp [setCursorOf])⟩
  cases q with
  | readNext =>
    simp only [serveRequest, serveReadNext]
    split
    · exact ⟨held, rfl, .inl rfl⟩
    · exact moved _
  | readBlock count =>
    simp only [serveRequest, serveReadBlock]
    split
    · exact ⟨held, rfl, .inl rfl⟩
    · exact moved _
  | peek n =>
    simp only [serveRequest, servePeek]
    split <;> exact ⟨held, rfl, .inl rfl⟩
  | setCursor target => exact moved _
  | clear =>
    simp only [serveRequest, serveClear]
    rw [retryEvent_of_port (p := h) (by rw [evaluateAdvice_pst]; exact held)]
    refine ⟨?_, ?_, .inr ?_⟩ <;> simp only [evaluateAdvice_pst]
    exact held

/-- The release of a port grants a commit that waits, and leaves a blocked one (R149). -/
theorem commitSound_releaseByPort {s : State}
    (work : s.slb.pendingSlices ≠ [] ↔ s.pst.commitWaiting = true ∨ s.pst.commitBlocked = true) :
    commitSound (releaseByPort s) := by
  rw [commitSound_iff, releaseByPort_slb]
  rcases releaseByPort_cases s with ⟨wait, same⟩ | ⟨wait, same⟩
  · rw [same]
    have pending := work.2 (.inl wait)
    exact ⟨by simp [grantCommit, pending], fun _ => ⟨rfl, rfl⟩, fun h => by simp [grantCommit] at h,
      fun q => Holder.noConfusion, Holder.noConfusion⟩
  · rw [same]
    obtain ⟨other, next, none, waited, block⟩ := grantNextPort_rests s
    rw [wait] at waited
    refine ⟨?_, fun path => absurd path other, by simp [waited], next, none⟩
    rw [work, wait, waited, block]
    simp [other]

theorem commitSound_grantAndServe {p : PortId} {q : StoreRequest} {echo : Byte} {s : State}
    (granted : storeFree s = true ∨ s.pst.holder = .port p) (sound : commitSound s) : commitSound (grantAndServe p q echo s) := by
  obtain ⟨work, -, waits, -⟩ := (commitSound_iff s).1 sound
  have idle : s.pst.holder ≠ .commitPath := by
    rintro path
    rcases granted with free | held
    · rw [storeFree_iff, path] at free
      exact Holder.noConfusion free.1
    · rw [path] at held; cases held
  obtain ⟨holder, blocked, waiting⟩ := serveRequest_arbiter (p := p) (q := q) (s := grantPort p s) rfl
  have asks : ∀ {b : Bool}, b = s.pst.commitWaiting ∨ b = (s.pst.commitWaiting || s.pst.commitBlocked) →
      (s.pst.commitWaiting = true ∨ s.pst.commitBlocked = true ↔ b = true ∨ s.pst.commitBlocked = true) := by
    rintro b (rfl | rfl) <;> simp
  replace work : s.slb.pendingSlices ≠ [] ↔
      (serveRequest p q (grantPort p s)).1.pst.commitWaiting = true ∨ s.pst.commitBlocked = true := by
    rw [work, ← asks waiting]; simp [idle]
  refine commitSound_releaseByPort ?_
  simp only [putAnswer, setSlot_slb, setSlot_pst, serveRequest_slb]
  rw [blocked]
  exact work

theorem commitSound_of_empty {s : State} (slb : s.slb.pendingSlices = []) (pst : s.pst = .reset)
    (idle : ∀ p, portWaiting s p = false) : commitSound s := by
  rw [commitSound_iff, slb, pst]
  exact ⟨by simp [ProfileStore.reset], by simp [ProfileStore.reset], by simp [ProfileStore.reset],
    fun p => by simp [ProfileStore.reset], fun _ => idle⟩

/-- A port that holds the store keeps its request, and no port begins one. -/
theorem commitSound_setPort {p : PortId} {m : MasterPort} {s : State}
    (work : portWaiting (s.setPort p m) p = portWaiting s p ∨
      portWaiting (s.setPort p m) p = false ∧ s.pst.holder ≠ .port p) (sound : commitSound s) :
    commitSound (s.setPort p m) := by
  obtain ⟨busy, alone, waits, granted, free⟩ := (commitSound_iff s).1 sound
  rw [commitSound_iff]
  simp only [setPort_slb, setPort_pst]
  refine ⟨busy, alone, waits, fun q held => ?_, fun none q => ?_⟩ <;> rw [portWaiting_setPort] <;> split
  · rename_i own
    subst own
    rcases work with same | ⟨-, other⟩
    · rw [same]; exact granted q held
    · exact absurd held other
  · exact granted q held
  · rename_i own
    subst own
    rcases work with same | ⟨ends, -⟩
    · rw [same]; exact free none q
    · exact ends
  · exact free none q

theorem commitSound_invariant : StepInvariant commitSound where
  queue s q n sound := commitSound_congr (s := s) rfl rfl rfl rfl (fun p => by cases p <;> rfl) sound
  clock s sound := commitSound_congr (s := s) rfl rfl rfl rfl (fun p => by cases p <;> rfl) sound
  wait := by
    rintro s _ ⟨p, q, echo, busy, rfl⟩ sound
    obtain ⟨work, alone, waits, granted, free⟩ := (commitSound_iff s).1 sound
    have held : s.pst.holder ≠ .none := fun none => by
      rw [(storeFree_of_commitSound sound).2 none] at busy; cases busy
    rw [commitSound_iff, setSlot_slb, setSlot_pst]
    refine ⟨work, alone, waits, fun h holder => ?_, fun none => absurd none held⟩
    rw [setSlot, portWaiting_setPort]
    split
    · simp [portWaiting]
    · exact granted h holder
  move := by
    intro s t one sound
    have quiet : ∀ {u : State}, SameButSlices u s → u.slb.pendingSlices = s.slb.pendingSlices → u.pst = s.pst → commitSound u :=
      fun same slb pst => commitSound_same same slb pst sound
    cases one with
    | aside => exact commitSound_congr (s := s) rfl rfl rfl rfl (fun p => by cases p <;> rfl) sound
    | latches f =>
      exact commitSound_congr (s := s) rfl rfl rfl rfl (fun p => portWaiting_congr (by rw [mapPorts_port])) sound
    | port p m link work => exact commitSound_setPort work sound
    | lock => exact commitSound_congr (s := s) rfl rfl rfl rfl (fun p => by cases p <;> rfl) sound
    | down p =>
      obtain ⟨slb, pst, -⟩ := down_fields p s
      refine commitSound_congr (by rw [slb]) (by rw [pst]) (by rw [pst]) (by rw [pst]) (fun q => portWaiting_congr ?_) sound
      rw [forcedRelease_port]
      split <;> (by_cases own : q = p <;> simp [setPort_port, own])
    | slices b run pending =>
      exact commitSound_congr (s := s) pending rfl rfl rfl (fun p => by cases p <;> rfl) sound
    | run r => exact quiet (setRun_same r s) (by rw [setRun_slb]) (setRun_pst r s)
    | close x rest c stop =>
      exact commitSound_same (reportClass_same _ _ _) (by rw [reportClass_slb]) (reportClass_pst _ _ _)
        (commitSound_appendPending sound)
    | abort =>
      obtain ⟨-, -, -, granted, free⟩ := (commitSound_iff s).1 sound
      have same : ∀ p, portWaiting (discardQueue s) p = portWaiting s p := fun p => by cases p <;> rfl
      refine commitSound_same (setRun_same _ _) (by rw [setRun_slb]) (setRun_pst _ _) (commitSound_abort rfl ?_ ?_) <;>
        simp only [same]
      · exact granted
      · exact free
    | position c m =>
      exact commitSound_congr (by simp) (by simp) (by simp) (by simp)
        (fun p => by rw [(evaluateAdvice_same _).waiting]; cases p <;> rfl) sound
    | track => exact commitSound_congr (s := s) rfl rfl rfl rfl (fun p => by cases p <;> rfl) sound
    | head h r =>
      exact commitSound_congr (by simp) (by simp) (by simp) (by simp)
        (fun p => by rw [(evaluateAdvice_same _).waiting]; exact portWaiting_congr (by simp)) sound
    | count h r => exact commitSound_congr (by simp) (by simp) (by simp) (by simp) (fun p => portWaiting_congr (by simp)) sound
    | setup u =>
      exact commitSound_congr (by simp) (by simp) (by simp) (by simp)
        (fun p => by rw [(evaluateAdvice_same _).waiting]; cases p <;> rfl) sound
    | entry => exact commitSound_congr (s := s) rfl rfl rfl rfl (fun p => by cases p <;> rfl) sound
    | cursor p c =>
      exact commitSound_congr (s := s) rfl (setCursor_holder _ _ _) (setCursor_commitWaiting _ _ _) (setCursor_commitBlocked _ _ _)
        (fun q => by cases q <;> rfl) sound
    | retry => exact commitSound_retryEvent sound
    | commit x rest held => exact commitSound_makeCommit held sound
    | refuse held some => exact commitSound_refuseCommit held some sound
    | serve p q echo granted => exact commitSound_grantAndServe granted sound
    | clearStop p =>
      exact quiet (sameButSlices (clearStopLatch_slices p s)) (by rw [clearStopLatch_slb]) (clearStopLatch_pst p s)
    | soft => exact commitSound_of_empty rfl rfl fun p => by cases p <;> rfl
    | device => exact commitSound_of_empty rfl rfl fun p => by cases p <;> rfl

/-- Settles O58: a sound commit path is an invariant of every move. -/
theorem everyStepKeepsTheCommitPathAtWork : Obligations.EveryStepKeepsTheCommitPathAtWork :=
  fun _ _ sound taken => commitSound_invariant.step taken sound

end Sys2Proof.Machine

/-! O59: what every step keeps of the advice. -/

namespace Sys2Proof.Machine

/-! ## What the advice depends on -/

/-- The inputs of an evaluation (R156). -/
structure SameInputs (s t : State) : Prop where
  setup : sameAdviceSetup s t.setup
  heads : ∀ h, sameAdviceHead (s.head h) (t.head h)
  run : t.slb.run = s.slb.run
  pending : t.slb.pendingSlices.length = s.slb.pendingSlices.length
  quality : t.chu.quality = s.chu.quality
  fill : fill t.pst = fill s.pst
  latch : t.adv.stopLatch = s.adv.stopLatch

theorem sameAdviceSetup_refl (s : State) : sameAdviceSetup s s.setup := ⟨rfl, rfl, rfl, rfl, rfl, rfl, .inr rfl⟩
theorem sameAdviceHead_refl (r : HeadReceiver) : sameAdviceHead r r := ⟨.rfl, fun _ => rfl⟩

/-- The advice is what its inputs make it. -/
theorem adviceOf_congr {s t : State} (same : SameInputs s t) : adviceOf t = adviceOf s := by
  obtain ⟨⟨minRevs, vCfg, vCrawl, storeHigh, enable1, enable2, length⟩, heads, run, pending, quality, fill, latch⟩ := same
  have locked : ∀ h, headLocked t h = headLocked s h := fun h => by
    unfold headLocked; exact decide_eq_decide.2 (heads h).1
  have any : anyLocked t = anyLocked s := by rw [anyLocked, anyLocked, locked, locked]
  have period : ∀ h, lockedPeriod t h = lockedPeriod s h := fun h => by
    rw [lockedPeriod, lockedPeriod, locked]
    split
    · rename_i isLocked
      rw [(heads h).2 (by simpa [headLocked] using isLocked)]
    · rfl
  have runs : isRunning t = isRunning s := by rw [isRunning, isRunning, run]
  have coverage : coverageLimit t = coverageLimit s := by
    rw [coverageLimit, coverageLimit, runs, any, minRevs, maxPeriod, maxPeriod, period, period]
    rcases length with idle | same
    · simp [isRunning, idle]
    · rw [same]
  have storeFill : causeStoreFill t = causeStoreFill s := by rw [causeStoreFill, causeStoreFill, runs, storeHigh, fill]
  have degraded : causeQuality t = causeQuality s := by rw [causeQuality, causeQuality, runs, quality]
  have missing : causeHeadMissing t = causeHeadMissing s := by
    rw [causeHeadMissing, causeHeadMissing, runs, enable1, enable2, locked, locked]
  have latched : causeLatch t = causeLatch s := latch
  have waiting : causePending t = causePending s := by rw [causePending, causePending, runs, pending]
  have lost : causeQualityLost t = causeQualityLost s := by rw [causeQualityLost, causeQualityLost, runs, quality]
  have noHead : causeNoHead t = causeNoHead s := by rw [causeNoHead, causeNoHead, runs, any]
  unfold adviceOf
  rw [coverage, storeFill, degraded, missing, latched, waiting, lost, noHead, vCfg, vCrawl]

theorem adviceSound_congr {s t : State} (same : SameInputs s t) (advice : t.adv = s.adv) (sound : adviceSound s) :
    adviceSound t := by
  obtain ⟨current, vCfg⟩ := sound
  refine ⟨by rw [advice, adviceOf_congr same]; exact current, ?_⟩
  rw [same.setup.2.1]
  exact vCfg

/-- The state with other inputs of no block: nothing that an evaluation reads has changed. -/
theorem sameInputs_of {s t : State} (setup : t.setup = s.setup) (heads : ∀ h, t.head h = s.head h) (slb : t.slb = s.slb)
    (quality : t.chu.quality = s.chu.quality) (stored : contents t.pst = contents s.pst) (latch : t.adv.stopLatch = s.adv.stopLatch) :
    SameInputs s t where
  setup := setup ▸ sameAdviceSetup_refl s
  heads h := heads h ▸ sameAdviceHead_refl _
  run := by rw [slb]
  pending := by rw [slb]
  quality := quality
  fill := by rw [fill, records_of_contents stored]; rfl
  latch := latch

theorem adviceSound_stands {s t : State} (setup : t.setup = s.setup) (heads : ∀ h, t.head h = s.head h) (slb : t.slb = s.slb)
    (quality : t.chu.quality = s.chu.quality) (stored : contents t.pst = contents s.pst) (advice : t.adv = s.adv)
    (sound : adviceSound s) : adviceSound t :=
  adviceSound_congr (sameInputs_of setup heads slb quality stored (by rw [advice])) advice sound

/-- What leaves the slices, the advice and the records leaves the advice sound. -/
theorem adviceSound_same {s t : State} (same : SameButSlices t s) (slb : t.slb = s.slb) (stored : contents t.pst = contents s.pst)
    (advice : t.adv = s.adv) (sound : adviceSound s) : adviceSound t :=
  adviceSound_stands same.setup same.head slb (by rw [same.chu]) stored advice sound

/-- An evaluation leaves the advice of its inputs. -/
theorem adviceSound_evaluate {s : State} (vCfg : 1 ≤ s.setup.vCfg) : adviceSound (evaluateAdvice s) := by
  refine ⟨?_, by rwa [evaluateAdvice_setup]⟩
  rw [evaluateAdvice_advice]
  refine (adviceOf_congr (sameInputs_of ?_ ?_ ?_ ?_ ?_ ?_)).symm <;> simp

/-- With the queue at rest and the latch clear, V_CFG is advised. -/
theorem adviceSound_atRest {s : State} (slb : s.slb = .reset) (adv : s.adv = .reset s.setup.vCfg) (vCfg : 1 ≤ s.setup.vCfg) :
    adviceSound s := by
  refine ⟨?_, vCfg⟩
  have rests : isRunning s = false := by simp [isRunning, slb, SliceBuilder.reset]
  have clear : s.adv.stopLatch = false := by rw [adv]; rfl
  rw [adv]
  simp [adviceOf, coverageLimit, causeStoreFill, causeQuality, causeHeadMissing, causeLatch, causePending, causeQualityLost,
    causeNoHead, rests, clear, baseSpeed, levelOf, AdviceUnit.reset, Advice.reset, Nat.one_le_iff_ne_zero.1 vCfg]

/-! ## The moves -/

theorem adviceSound_setRun {r : RunState} {s : State} (sound : adviceSound s) : adviceSound (setRun r s) := by
  unfold setRun
  split
  · exact sound
  · exact adviceSound_evaluate sound.2

theorem adviceSound_reportClass {c : SectorState} {stop : Bool} {s : State} (sound : adviceSound s) :
    adviceSound (reportClass c stop s) := by
  unfold reportClass
  split
  · exact adviceSound_evaluate sound.2
  · exact sound

theorem adviceSound_askCommit {s : State} (sound : adviceSound s) : adviceSound (askCommit s) :=
  adviceSound_same (askCommit_same s) (askCommit_slb s) (askCommit_contents s) (askCommit_adv s) sound

theorem adviceSound_retryEvent {s : State} (sound : adviceSound s) : adviceSound (retryEvent s) :=
  adviceSound_same (retryEvent_same s) (retryEvent_slb s) (retryEvent_contents s) (retryEvent_adv s) sound

theorem adviceSound_appendPending {x : PendingSlice} {rest : List OpenSlice} {s : State} (vCfg : 1 ≤ s.setup.vCfg) :
    adviceSound (appendPending x rest s) := by
  unfold appendPending
  dsimp only
  split
  · exact adviceSound_askCommit (adviceSound_evaluate vCfg)
  · exact adviceSound_evaluate vCfg

@[simp] theorem grantNextPort_adv (s : State) : (grantNextPort s).adv = s.adv := by unfold grantNextPort; split <;> rfl
@[simp] theorem releaseByPort_adv (s : State) : (releaseByPort s).adv = s.adv := by
  unfold releaseByPort
  split
  · rfl
  · exact grantNextPort_adv s
@[simp] theorem endCommitHold_adv (s : State) : (endCommitHold s).adv = s.adv := grantNextPort_adv _
@[simp] theorem releaseByCommit_adv (s : State) : (releaseByCommit s).adv = s.adv := by
  unfold releaseByCommit
  dsimp only
  split <;> simp
@[simp] theorem refuseCommit_adv (s : State) : (refuseCommit s).adv = s.adv := by
  unfold refuseCommit
  dsimp only
  split <;> simp
@[simp] theorem abandonCommit_setup (s : State) : (abandonCommit s).setup = s.setup := (abandonCommit_same s).setup
@[simp] theorem grantPort_setup (p : PortId) (s : State) : (grantPort p s).setup = s.setup := rfl

theorem adviceSound_makeCommit {x : PendingSlice} {rest : List PendingSlice} {s : State} (vCfg : 1 ≤ s.setup.vCfg) :
    adviceSound (makeCommit x rest s) := by
  have drained : ∀ u : State, 1 ≤ u.setup.vCfg → adviceSound (drainEnd (evaluateAdvice u)) := fun u bound => by
    unfold drainEnd
    split
    · exact adviceSound_setRun (adviceSound_evaluate bound)
    · exact adviceSound_evaluate bound
  have released : ∀ u : State, adviceSound u → adviceSound (releaseByCommit u) := fun u =>
    adviceSound_same (sameButSlices (releaseByCommit_slices u)) (releaseByCommit_slb u) (releaseByCommit_contents u)
      (releaseByCommit_adv u)
  refine released _ (drained _ ?_)
  have evicted : (if fill s.pst = Config.storeCapacity then evictOldest s else s).setup = s.setup := by split <;> rfl
  have high : ∀ n (u : State), (raiseHigh n u).setup = u.setup := fun n u => by unfold raiseHigh; split <;> rfl
  have cls : ∀ c (u : State), (raiseClass c u).setup = u.setup := fun c u => by cases c <;> rfl
  rw [high, cls, storeRecord, raiseData, mapPorts_setup, evicted]
  exact vCfg

/-- The work of a granted port reads and moves a cursor, or empties the store with an evaluation (R142 to R148). -/
theorem adviceSound_serveRequest {p : PortId} {q : StoreRequest} {s : State} (sound : adviceSound s) :
    adviceSound (serveRequest p q s).1 := by
  have moved : ∀ n, adviceSound (moveCursor p n s) := fun n =>
    adviceSound_retryEvent (adviceSound_congr (s := s)
      { setup := sameAdviceSetup_refl s, heads := fun h => by cases h <;> exact sameAdviceHead_refl _, run := rfl, pending := rfl,
        quality := rfl, fill := by simp [fill, setCursorOf], latch := rfl } rfl sound)
  cases q with
  | readNext => simp only [serveRequest, serveReadNext]; split <;> simp [sound, moved]
  | readBlock count => simp only [serveRequest, serveReadBlock]; split <;> simp [sound, moved]
  | peek n => simp only [serveRequest, servePeek]; split <;> exact sound
  | setCursor target => exact moved _
  | clear => exact adviceSound_retryEvent (adviceSound_evaluate sound.2)

theorem adviceSound_grantAndServe {p : PortId} {q : StoreRequest} {echo : Byte} {s : State} (sound : adviceSound s) :
    adviceSound (grantAndServe p q echo s) := by
  have granted : adviceSound (grantPort p s) :=
    adviceSound_stands (s := s) rfl (fun h => by cases h <;> rfl) rfl rfl rfl rfl sound
  have answered : ∀ u (r : Reply), adviceSound u → adviceSound (putAnswer p echo r u) := fun u r =>
    adviceSound_stands (by simp [putAnswer]) (fun h => by rw [putAnswer, setSlot, setPort_head]) (by simp [putAnswer])
      (by simp [putAnswer]) (by simp [putAnswer]) (by simp [putAnswer])
  exact adviceSound_same (sameButSlices (slices_of_store (releaseByPort_store _))) (releaseByPort_slb _) (releaseByPort_contents _)
    (releaseByPort_adv _) (answered _ _ (adviceSound_serveRequest granted))

/-- The advice of its inputs, with the setup in range, which bounds V_CFG. -/
def adviceKept (s : State) : Prop := setupSound s.setup ∧ adviceSound s

theorem vCfg_of_setupSound {u : Setup} (sound : setupSound u) : 1 ≤ u.vCfg := by
  have range := sound .vCfg
  simp only [valueSound, entryRange, setupValue] at range
  omega

theorem adviceSound_invariant : StepInvariant adviceKept where
  queue s q n kept := by
    obtain ⟨setup, sound⟩ := kept
    exact ⟨setup, adviceSound_stands (s := s) rfl (fun h => by cases h <;> rfl) rfl rfl rfl rfl sound⟩
  clock s kept := by
    obtain ⟨setup, sound⟩ := kept
    exact ⟨setup, adviceSound_congr (s := s)
      { setup := sameAdviceSetup_refl s, heads := fun h => by cases h <;> exact sameAdviceHead_refl _, run := rfl, pending := rfl,
        quality := rfl, fill := rfl, latch := rfl } rfl sound⟩
  wait := by
    rintro s t waits ⟨setup, sound⟩
    refine ⟨setupSound_invariant.wait waits setup, ?_⟩
    obtain ⟨p, q, echo, -, rfl⟩ := waits
    exact adviceSound_stands (by simp) (fun h => by rw [setSlot, setPort_head]) (by simp) (by simp) (by simp) (by simp) sound
  move := by
    rintro s t one ⟨setup, sound⟩
    refine ⟨setupSound_invariant.move one setup, ?_⟩
    have stands : ∀ {u : State}, u.setup = s.setup → (∀ h, u.head h = s.head h) → u.slb = s.slb →
        u.chu.quality = s.chu.quality → u.pst = s.pst → u.adv = s.adv → adviceSound u := fun setup heads slb quality pst adv =>
      adviceSound_stands setup heads slb quality (by rw [pst]) adv sound
    have vCfg := sound.2
    cases one with
    | aside => exact stands rfl (fun h => by cases h <;> rfl) rfl rfl rfl rfl
    | latches f => exact stands rfl (fun h => by cases h <;> rfl) rfl rfl rfl rfl
    | port p m => exact stands (by simp) (fun h => by simp) (by simp) (by simp) (by simp) (by simp)
    | lock => exact stands rfl (fun h => by cases h <;> rfl) rfl rfl rfl rfl
    | down p =>
      obtain ⟨slb, pst, adv, chu, setup, heads⟩ := down_fields p s
      exact stands setup heads slb (by rw [chu]) pst adv
    | slices b run pending =>
      exact adviceSound_congr (s := s)
        { setup := sameAdviceSetup_refl s, heads := fun h => by cases h <;> exact sameAdviceHead_refl _, run := run,
          pending := congrArg List.length pending, quality := rfl, fill := rfl, latch := rfl } rfl sound
    | run => exact adviceSound_setRun sound
    | close => exact adviceSound_reportClass (adviceSound_appendPending vCfg)
    | abort run =>
      unfold setRun
      rw [if_neg (by rw [abandonCommit_slb]; exact run)]
      exact adviceSound_evaluate (by simpa [discardQueue] using vCfg)
    | position => exact adviceSound_evaluate vCfg
    | track c m quality => exact stands rfl (fun h => by cases h <;> rfl) rfl quality rfl rfl
    | head h r => exact adviceSound_evaluate (by rwa [setHead_setup])
    | count h r inputs =>
      refine adviceSound_congr (s := s)
        { setup := by rw [setHead_setup]; exact sameAdviceSetup_refl s, heads := fun g => ?_, run := by simp, pending := by simp,
          quality := by simp, fill := by simp, latch := by simp } (by simp) sound
      rw [setHead_head]
      split
      · rename_i own; rw [own]; exact inputs
      · exact sameAdviceHead_refl _
    | setup u kept => exact adviceSound_evaluate (vCfg_of_setupSound (kept setup))
    | entry u inputs =>
      exact adviceSound_congr (s := s)
        { setup := inputs, heads := fun h => by cases h <;> exact sameAdviceHead_refl _, run := rfl, pending := rfl,
          quality := rfl, fill := rfl, latch := rfl } rfl sound
    | cursor p c =>
      exact adviceSound_congr (s := s)
        { setup := sameAdviceSetup_refl s, heads := fun h => by cases h <;> exact sameAdviceHead_refl _, run := rfl, pending := rfl,
          quality := rfl, fill := by simp [fill, setCursorOf], latch := rfl } rfl sound
    | retry => exact adviceSound_retryEvent sound
    | commit => exact adviceSound_makeCommit vCfg
    | refuse =>
      exact adviceSound_same (refuseCommit_same s) (refuseCommit_slb s) (refuseCommit_contents s) (refuseCommit_adv s) sound
    | serve => exact adviceSound_grantAndServe sound
    | clearStop p =>
      unfold clearStopLatch
      split
      · exact adviceSound_evaluate vCfg
      · exact sound
    | soft => exact adviceSound_atRest rfl rfl vCfg
    | device => exact adviceSound_atRest rfl rfl (by simp [resetDevice, State.resetWith, Setup.reset])

/-- Settles O59: the advice of its inputs, with the setup in range, is an invariant of every move. -/
theorem everyStepKeepsTheAdviceOfItsInputs : Obligations.EveryStepKeepsTheAdviceOfItsInputs := by
  intro s t setup sound taken
  obtain ⟨-, kept⟩ := adviceSound_invariant.step taken ⟨setup, sound⟩
  exact kept

end Sys2Proof.Machine

/-! O1, O5 to O10: steps with a command in front, and the frames of a head, with what an entry to or an exit from a state leads to. -/

namespace Sys2Proof.Machine

/-- Settles O1: by the definition of a step. -/
theorem stepRunsTheFrontCommand : Obligations.StepRunsTheFrontCommand := by
  intro c rest s front
  unfold step
  rw [front]

/-! ## Events that stay outstanding -/

/-- No event that is outstanding at a port is lost. -/
def keepsEvents (s t : State) : Prop := ∀ e p, outstanding e (s.port p) = true → outstanding e (t.port p) = true

theorem keepsEvents.trans {s t u : State} (first : keepsEvents s t) (second : keepsEvents t u) : keepsEvents s u :=
  fun e p stands => second e p (first e p stands)

theorem keepsEvents_of_ports {s t : State} (ports : ∀ p, t.port p = s.port p) : keepsEvents s t := fun e p stands => by
  rw [ports]; exact stands

theorem raiseAll_keepsEvents (e : Event) (s : State) : keepsEvents s (raiseAll e s) := fun f p => raiseAll_keeps e f s p
theorem evaluateAdvice_keepsEvents (s : State) : keepsEvents s (evaluateAdvice s) := fun f p => evaluateAdvice_keeps f s p

theorem reportClass_keepsEvents (c : SectorState) (stop : Bool) (s : State) : keepsEvents s (reportClass c stop s) := by
  rcases reportClass_cases c stop s with ⟨-, same⟩ | ⟨-, same⟩
  · rw [same]
    have latched : keepsEvents s { s with adv := { s.adv with stopLatch := true, lastStop := .set } } :=
      keepsEvents_of_ports fun p => by cases p <;> rfl
    exact (latched.trans (raiseAll_keepsEvents .stopChange _)).trans (evaluateAdvice_keepsEvents _)
  · rw [same]; exact fun _ _ => id

theorem appendPending_keepsEvents (x : PendingSlice) (rest : List OpenSlice) (s : State) :
    keepsEvents s (appendPending x rest s) := by
  unfold appendPending
  dsimp only
  have queued : keepsEvents s { s with slb := { s.slb with
      openSlices := rest, pendingSlices := s.slb.pendingSlices ++ [x], lastClosed := some x.header.index } } :=
    keepsEvents_of_ports fun p => by cases p <;> rfl
  split
  · exact (queued.trans (evaluateAdvice_keepsEvents _)).trans (keepsEvents_of_ports (askCommit_port _))
  · exact queued.trans (evaluateAdvice_keepsEvents _)

theorem closeRearmost_keepsEvents (kind : CloseKind) (s : State) : keepsEvents s (closeRearmost kind s) := by
  cases front : s.slb.openSlices with
  | nil => rw [closeRearmost_none front]; exact fun _ _ => id
  | cons x rest =>
    rw [closeRearmost_cons kind x rest s front]
    exact (appendPending_keepsEvents _ _ s).trans (reportClass_keepsEvents _ _ _)

theorem closeMany_keepsEvents (kind : CloseKind) (n : Nat) (s : State) : keepsEvents s (closeMany kind n s) := by
  induction n generalizing s with
  | zero => exact fun _ _ => id
  | succ n ih => exact (closeRearmost_keepsEvents kind s).trans (ih _)

theorem flush_keepsEvents (s : State) : keepsEvents s (flush s) := closeMany_keepsEvents _ _ s

theorem closeTestFrom_keepsEvents (n : Nat) (s : State) : keepsEvents s (closeTestFrom n s) := by
  induction n generalizing s with
  | zero => exact fun _ _ => id
  | succ n ih =>
    unfold closeTestFrom
    split
    · exact fun _ _ => id
    · split
      · exact (closeRearmost_keepsEvents _ s).trans (ih _)
      · exact fun _ _ => id

theorem closeTest_keepsEvents (s : State) : keepsEvents s (closeTest s) := by
  unfold closeTest
  split
  · exact fun _ _ => id
  · exact (closeTestFrom_keepsEvents _ s).trans (keepsEvents_of_ports fun p => by cases p <;> rfl)

/-! ## Entries and exits -/

theorem afterExit_same (h : HeadId) (s : State) : SameButSlices (afterExit h s) s := by
  apply sameButSlices
  unfold afterExit
  dsimp only
  split
  · split
    · rw [closeTest_slices, evaluateAdvice_slices]
    · rw [flush_slices, evaluateAdvice_slices]
  · exact evaluateAdvice_slices s

theorem afterExit_keepsEvents (h : HeadId) (s : State) : keepsEvents s (afterExit h s) := by
  unfold afterExit
  dsimp only
  split
  · split
    · exact (evaluateAdvice_keepsEvents s).trans (closeTest_keepsEvents _)
    · exact (evaluateAdvice_keepsEvents s).trans (flush_keepsEvents _)
  · exact evaluateAdvice_keepsEvents s

/-- Once a head has left LOCKED, some head is LOCKED exactly when the other one is (R94). -/
theorem lockedHeadChange_of_exit {h : HeadId} {s : State} (exited : (s.head h).state ≠ .locked) :
    lockedHeadChange s = afterExit h s := by
  have other : anyLocked (evaluateAdvice s) = true ↔ ((evaluateAdvice s).head (otherHead h)).state = .locked := by
    cases h <;> simp [anyLocked, headLocked, otherHead] at exited ⊢ <;> simp [exited]
  unfold lockedHeadChange afterExit
  dsimp only
  simp only [other]

/-- Entry from a state that is not LOCKED to one that is not: HEAD_STATE on a change, and no other block is told (R6). -/
theorem enterState_setHead {h : HeadId} {dest : HeadState} {r : HeadReceiver} {s : State} (source : r.state ≠ .locked)
    (target : dest ≠ .locked) :
    enterState h dest (s.setHead h r) =
      if r.state = dest then s.setHead h (inState dest r) else raiseAll .headState (s.setHead h (inState dest r)) := by
  simp [enterState, source, target, withTimers_state_eq_inState]

/-- The exit from LOCKED, with its consequences (R6, R94, R156). -/
theorem enterState_of_locked {h : HeadId} {dest : HeadState} {r : HeadReceiver} {s : State} (source : r.state = .locked)
    (target : dest ≠ .locked) :
    enterState h dest (s.setHead h r) = afterExit h (raiseAll .headState (s.setHead h (inState dest r))) := by
  have exited : ((raiseAll .headState (s.setHead h (inState dest r))).head h).state ≠ .locked := by
    rw [raiseAll_head, setHead_head_self]; exact target
  rw [← lockedHeadChange_of_exit exited]
  simp [enterState, source, target, target.symm, withTimers_state_eq_inState]

theorem enterFaulted_eq (h : HeadId) (cause : FaultCause) (s : State) :
    enterFaulted h cause s = enterState h .faulted (s.setHead h { s.head h with openRev := none, faultCause := cause }) := by
  simp [enterFaulted, dropRevolution]

theorem enterFaulted_of_active {h : HeadId} {cause : FaultCause} {s : State} (free : (s.head h).state ≠ .locked)
    (active : (s.head h).state ≠ .faulted) :
    enterFaulted h cause s =
      raiseAll .headState (s.setHead h { inState .faulted (s.head h) with openRev := none, faultCause := cause }) := by
  rw [enterFaulted_eq]
  exact (enterState_setHead (r := { s.head h with openRev := none, faultCause := cause }) free (by simp)).trans (if_neg active)

theorem enterFaulted_of_locked {h : HeadId} {cause : FaultCause} {s : State} (locked : (s.head h).state = .locked) :
    enterFaulted h cause s =
      afterExit h (raiseAll .headState
        (s.setHead h { inState .faulted (s.head h) with openRev := none, faultCause := cause })) := by
  rw [enterFaulted_eq]
  exact enterState_of_locked (r := { s.head h with openRev := none, faultCause := cause }) locked (by simp)

/-- What the exit of a head leads to leaves every block but the slices, the store, the advice and the latches. -/
theorem exited_fields {h : HeadId} {r : HeadReceiver} {s : State} :
    let t := afterExit h (raiseAll .headState (s.setHead h r))
    t.head h = r ∧ t.head (otherHead h) = s.head (otherHead h) ∧ (∀ p, outstanding .headState (t.port p) = true) ∧
      t.chu = s.chu ∧ t.mku = s.mku ∧ t.scv = s.scv ∧ t.env = s.env ∧ t.locks = s.locks ∧ t.signals = s.signals ∧
      t.setup = s.setup := by
  have same := afterExit_same h (raiseAll .headState (s.setHead h r))
  refine ⟨?_, ?_, fun p => afterExit_keepsEvents h _ _ p (raiseAll_outstanding _ _ p), ?_, ?_, ?_, ?_, ?_, ?_, ?_⟩
  · rw [same.head, raiseAll_head, setHead_head_self]
  · rw [same.head, raiseAll_head, setHead_head, if_neg (by cases h <;> decide)]
  · rw [same.chu, raiseAll_chu, setHead_chu]
  · rw [same.mku, raiseAll_mku, setHead_mku]
  · rw [same.scv, raiseAll_scv, setHead_scv]
  · rw [same.env, raiseAll_env, setHead_env]
  · rw [same.locks, raiseAll_locks, setHead_locks]
  · rw [same.signals, raiseAll_signals, setHead_signals]
  · rw [same.setup, raiseAll_setup, setHead_setup]

/-! ## A failed training attempt (O5, O6) -/

theorem exec_attemptTimerExpiry (h : HeadId) (s : State) : exec (.attemptTimerExpiry h) s = .next (attemptExpires h s) := rfl

theorem takeTrainAck_of_not_training {h : HeadId} {s : State} (code : Byte) (other : (s.head h).state ≠ .training) :
    takeTrainAck h code s = s := by
  unfold takeTrainAck
  split
  · contradiction
  · rfl

theorem attemptExpires_of_not_training {h : HeadId} {s : State} (other : (s.head h).state ≠ .training) :
    attemptExpires h s = s := by
  unfold attemptExpires
  split
  · contradiction
  · rfl

theorem attemptExpires_of_training {h : HeadId} {s : State} (training : (s.head h).state = .training) :
    attemptExpires h s = trainingFailure h s := by simp [attemptExpires, training]

theorem stepDown_of_ne_quarter {r : Rate} (fast : r ≠ .quarter) : stepDown r = if r = .full then .half else .quarter := by
  cases r
  · rfl
  · rfl
  · contradiction

theorem sendTrain_setHead (h : HeadId) (r : HeadReceiver) (s : State) :
    sendTrain h (s.setHead h r) = s.setHead h { r with trainSent := some r.rate, attemptTimer := some 50000 } := by
  simp [sendTrain, Config.attemptUs]

/-- A failed attempt: the first case of R10 that holds decides. -/
theorem trainingFailure_of_training {h : HeadId} {s : State} (training : (s.head h).state = .training) :
    let r := counted .trainFailures (s.head h)
    let n := r.trainFailures + 1
    let limit := (s.setup.head h).downspeed
    let lower : Rate := if r.rate = .full then .half else .quarter
    trainingFailure h s =
      if r.rate ≠ .quarter ∧ limit ≠ 0 ∧ limit ≤ n then
        raiseAll .headState (s.setHead h { r with
          rate := lower, trainFailures := 0, trainSent := some lower, attemptTimer := some 50000 })
      else if n = 7 then
        raiseAll .headState (s.setHead h { inState .faulted r with
          trainFailures := 0, openRev := none, faultCause := .train })
      else s.setHead h { r with trainFailures := n, trainSent := some r.rate, attemptTimer := some 50000 } := by
  intro r n limit lower
  have counts : countEvents h .trainFailures 1 s = s.setHead h r := countEvents_one _ _ _
  have state : r.state = .training := (counted_state _ _).trans training
  unfold trainingFailure
  simp only [counts, setHead_head_self, setHead_setup, setHead_setHead]
  change (if r.rate ≠ .quarter ∧ limit ≠ 0 ∧ limit ≤ n then _ else if n = 7 then _ else _) = _
  by_cases slower : r.rate ≠ .quarter ∧ limit ≠ 0 ∧ limit ≤ n
  · rw [if_pos slower, if_pos slower, raiseAll_setHead, sendTrain_setHead, ← raiseAll_setHead]
    simp only [stepDown_of_ne_quarter slower.1, lower]
  · rw [if_neg slower, if_neg slower]
    by_cases seventh : n = 7
    · rw [if_pos seventh, if_pos seventh, enterFaulted_of_active (by simp [state]) (by simp [state])]
      simp only [setHead_head_self, setHead_setHead]
      rfl
    · rw [if_neg seventh, if_neg seventh, sendTrain_setHead]

/-- Settles O5: outside TRAINING nothing happens, and both kinds of failure are `trainingFailure`. -/
theorem failedAttemptTakesTheFirstCase : Obligations.FailedAttemptTakesTheFirstCase := by
  refine ⟨fun h code s other => ?_, fun h code s c training fails => ?_⟩
  · rw [exec_trainAck, exec_attemptTimerExpiry, takeTrainAck_of_not_training code other, attemptExpires_of_not_training other]
    exact ⟨rfl, rfl⟩
  · have failed : exec c s = .next (trainingFailure h s) := by
      rcases fails with rfl | ⟨rfl, wrong⟩
      · rw [exec_attemptTimerExpiry, attemptExpires_of_training training]
      · rw [exec_trainAck, takeTrainAck_of_training code training, if_neg wrong]
    rw [failed, trainingFailure_of_training training]
    dsimp only
    split_ifs <;> rfl

/-- Settles O6: a dropped frame is counted where the head handles frames, and ends an attempt. -/
theorem damagedFrameIsDroppedAndCounted : Obligations.DamagedFrameIsDroppedAndCounted := by
  intro h frame s damaged
  have dropped : exec (.frameFailsCheck h frame) s = .next (dropFrame h s) := by
    have taken : exec (.frameFailsCheck h frame) s = .next (if headFramePasses frame then s else dropFrame h s) := rfl
    rw [taken, damaged]; rfl
  rw [dropped, dropFrame]
  cases state : (s.head h).state with
  | training =>
    have still : ((s.setHead h (counted .frameCheck (s.head h))).head h).state = .training := by simp [state]
    dsimp only
    rw [exec_attemptTimerExpiry, attemptExpires_of_training still, countEvents_one]
  | acquiring => dsimp only; rw [countEvents_one]
  | locked => dsimp only; rw [countEvents_one]
  | off => rfl
  | powering => rfl
  | faulted => rfl

end Sys2Proof.Machine

/-! O7 to O11: the revolutions of a head. -/

namespace Sys2Proof.Machine

/-! ## Counting -/

@[simp] theorem counted_averagedPeriod (c : CounterClass) (r : HeadReceiver) : (counted c r).averagedPeriod = r.averagedPeriod := by
  unfold counted; split <;> rfl

/-- A count leaves the fields of the acquisition to be set before or after it. -/
theorem counted_setOpenRev (c : CounterClass) (r : HeadReceiver) (o : Option OpenRevolution) :
    counted c { r with openRev := o } = { counted c r with openRev := o } := by
  unfold counted; split <;> rfl
theorem counted_setWatchdog (c : CounterClass) (r : HeadReceiver) (o : Option OpenRevolution) (w : Option Nat) :
    counted c { r with openRev := o, watchdog := w } = { counted c r with openRev := o, watchdog := w } := by
  unfold counted; split <;> rfl
theorem counted_setPrevious (c : CounterClass) (r : HeadReceiver) (o : Option OpenRevolution) (q : Option AcceptedRevolution) :
    counted c { r with openRev := o, previous := q } = { counted c r with openRev := o, previous := q } := by
  unfold counted; split <;> rfl

/-! ## A rejected revolution (R14, R17, R18) -/

theorem rejectRevolution_acquiring {h : HeadId} {r : HeadReceiver} {s : State} (acquiring : r.state = .acquiring) :
    rejectRevolution h (s.setHead h r) = s.setHead h { counted .rejected r with periods := [] } := by
  simp [rejectRevolution, countEvents_one, acquiring]

theorem rejectRevolution_locked {h : HeadId} {r : HeadReceiver} {s : State} (locked : r.state = .locked)
    (few : r.rejectionRun ≠ 2) :
    rejectRevolution h (s.setHead h r) = s.setHead h { counted .rejected r with rejectionRun := r.rejectionRun + 1 } := by
  simp [rejectRevolution, countEvents_one, locked, few]

/-- What the fall back to ACQUIRING makes of a head (R18). -/
def fallenBack (r : HeadReceiver) : HeadReceiver :=
  { inState .acquiring r with periods := [], previous := none, rejectionRun := 0, averagedPeriod := none }

theorem enterAcquiring_of_locked {h : HeadId} {r : HeadReceiver} {s : State} (locked : r.state = .locked) :
    enterAcquiring h (s.setHead h r) = afterExit h (raiseAll .headState (s.setHead h (fallenBack r))) := by
  have entered := enterState_of_locked (r := acquiringValues r) (s := s) (h := h) (dest := .acquiring) locked (by simp)
  simp only [enterAcquiring, setHead_head_self, setHead_setHead]
  exact entered

theorem rejectRevolution_third {h : HeadId} {r : HeadReceiver} {s : State} (locked : r.state = .locked)
    (third : r.rejectionRun = 2) :
    rejectRevolution h (s.setHead h r) = afterExit h (raiseAll .headState (s.setHead h (fallenBack (counted .rejected r)))) := by
  simp only [rejectRevolution, countEvents_one, setHead_head_self, setHead_setHead, counted_state, locked, counted_rejectionRun,
    third, if_true]
  exact enterAcquiring_of_locked rfl

/-! ## REV_START (O7) -/

theorem exec_revStart (h : HeadId) (number : BitVec 16) (code : Byte) (s : State) :
    exec (.revStart h number code) s = .next (takeRevStart h number code s) := rfl

theorem takeRevStart_discards {h : HeadId} {s : State} (number : BitVec 16) (code : Byte) (acquiring : (s.head h).state ≠ .acquiring)
    (locked : (s.head h).state ≠ .locked) : takeRevStart h number code s = s := by
  unfold takeRevStart
  rw [(handlesRevolutions_eq_false s h).2 ⟨acquiring, locked⟩]
  rfl

/-- R3: the revolution opens on what is left of the one before it. -/
theorem takeRevStart_opens {h : HeadId} {s : State} (number : BitVec 16) (code : Byte)
    (handles : (s.head h).state = .acquiring ∨ (s.head h).state = .locked) :
    takeRevStart h number code s =
      let b := if (s.head h).openRev.isSome then
          rejectRevolution h (s.setHead h { s.head h with openRev := none, watchdog := some 40000 })
        else s.setHead h { s.head h with watchdog := some 40000 }
      setStale (b.setHead h { b.head h with openRev := some (openedRevolution h number code b) }) h false := by
  unfold takeRevStart
  rw [(handlesRevolutions_iff s h).2 handles, if_pos rfl]
  simp only [setHead_head_self, dropRevolution, setHead_setHead, Config.watchdogUs]

theorem openedRevolution_congr {h : HeadId} {a b : State} (number : BitVec 16) (code : Byte) (rate : (a.head h).rate = (b.head h).rate)
    (time : a.timebase = b.timebase) (chu : a.chu = b.chu) (setup : a.setup = b.setup) (scv : a.scv = b.scv) :
    openedRevolution h number code a = openedRevolution h number code b := by
  simp only [openedRevolution, headChainage, chainageMm, rate, time, chu, setup, scv]

/-- R47: the head chainage in the quantities of the spec. -/
theorem headChainage_eq (s : State) (h : HeadId) :
    headChainage s h = (clampInt 0 999999999 ((s.chu.chainage / 1000 : Nat) +
      (if s.setup.orientation = .forward then 1 else -1) * (s.setup.head h).offset)).toNat := by
  have sign : orientationSign s.setup = if s.setup.orientation = .forward then 1 else -1 := by
    unfold orientationSign; cases s.setup.orientation <;> rfl
  rw [headChainage, sign]; rfl

/-- R3, R34, R47: the revolution that opens, with its snapshots. -/
theorem openedRevolution_eq (h : HeadId) (number : BitVec 16) (code : Byte) (s : State) :
    openedRevolution h number code s =
      { number := number, rateCode := code, nextBlock := 0, broken := decide (code.toNat ≠ rateCode (s.head h).rate),
        startTime := s.timebase,
        headChainage := (clampInt 0 999999999 ((s.chu.chainage / 1000 : Nat) +
          (if s.setup.orientation = .forward then 1 else -1) * (s.setup.head h).offset)).toNat,
        cant := s.scv.cant.value, cantInvalid := decide (s.scv.cant.status ≠ .valid), cantClamped := s.scv.cant.clamped,
        samples := [] } := by
  rw [openedRevolution, headChainage_eq, codeMatches, ← decide_not]

/-- Settles O7: the open revolution, if there is one, is rejected first, and what that leaves of the head opens the new one. -/
theorem revStartOpensARevolution : Obligations.RevStartOpensARevolution := by
  intro h number code s opened rejected
  have opens : openedRevolution h number code s = opened := openedRevolution_eq h number code s
  have kept : ∀ r : HeadReceiver, r.rate = (s.head h).rate → openedRevolution h number code (s.setHead h r) = opened := fun r rate =>
    (openedRevolution_congr number code (by simpa using rate) (by simp) (by simp) (by simp) (by simp)).trans opens
  refine ⟨fun a l => ?_, fun handles none => ?_, fun acquiring busy => ?_, fun locked busy few => ?_, fun locked busy third => ?_⟩
  · rw [exec_revStart, takeRevStart_discards number code a l]
  · rw [exec_revStart, takeRevStart_opens number code handles, none]
    simp only [Option.isSome_none, Bool.false_eq_true, if_false, setHead_head_self, setHead_setHead]
    rw [kept { s.head h with watchdog := some 40000 } rfl]
  · rw [exec_revStart, takeRevStart_opens number code (.inl acquiring), if_pos (Option.isSome_iff_ne_none.2 busy),
      rejectRevolution_acquiring (r := { s.head h with openRev := none, watchdog := some 40000 }) acquiring, counted_setWatchdog]
    simp only [setHead_head_self, setHead_setHead]
    rw [kept { rejected with openRev := none, watchdog := some 40000, periods := [] } (counted_rate _ _)]
  · rw [exec_revStart, takeRevStart_opens number code (.inr locked), if_pos (Option.isSome_iff_ne_none.2 busy),
      rejectRevolution_locked (r := { s.head h with openRev := none, watchdog := some 40000 }) locked few, counted_setWatchdog]
    simp only [setHead_head_self, setHead_setHead]
    rw [kept { rejected with openRev := none, watchdog := some 40000, rejectionRun := (s.head h).rejectionRun + 1 }
      (counted_rate _ _)]
  · intro fallen
    have rejects : rejectRevolution h (s.setHead h { s.head h with openRev := none, watchdog := some 40000 }) =
        afterExit h (raiseAll .headState (s.setHead h fallen)) := by
      rw [rejectRevolution_third (r := { s.head h with openRev := none, watchdog := some 40000 }) locked third,
        counted_setWatchdog]
      rfl
    obtain ⟨own, other, raised, chu, mku, scv, env, locks, signals, setup⟩ := exited_fields (h := h) (r := fallen) (s := s)
    have time : (afterExit h (raiseAll .headState (s.setHead h fallen))).timebase = s.timebase := by
      rw [(afterExit_same _ _).timebase, raiseAll_timebase, setHead_timebase]
    have new : openedRevolution h number code (afterExit h (raiseAll .headState (s.setHead h fallen))) = opened :=
      (openedRevolution_congr number code (by rw [own]; exact counted_rate _ _) time chu setup scv).trans opens
    refine ⟨_, rfl, ?_⟩
    rw [takeRevStart_opens number code (.inr locked), if_pos (Option.isSome_iff_ne_none.2 busy), rejects]
    dsimp only
    rw [new, own]
    have stale : ∀ t : State, (∀ g, (setStale t h false).head g = t.head g) ∧ (∀ p, (setStale t h false).port p = t.port p) ∧
        staleMark (setStale t h false) h = false := fun t => by
      refine ⟨fun g => ?_, fun p => ?_, ?_⟩
      · cases h <;> cases g <;> rfl
      · cases h <;> cases p <;> rfl
      · cases h <;> rfl
    obtain ⟨heads, ports, mark⟩ := stale ((afterExit h (raiseAll .headState (s.setHead h fallen))).setHead h
      { fallen with openRev := some opened })
    refine ⟨rfl, ?_, ?_, mark, fun p => ?_, ?_, ?_, ?_, ?_⟩
    · rw [heads, setHead_head_self]
    · rw [heads, setHead_head, if_neg (by cases h <;> decide), other]
    · rw [ports, setHead_port]; exact raised p
    · rw [setStale_chu, setHead_chu, chu]
    · rw [setStale_mku, setHead_mku, mku]
    · rw [setStale_scv, setHead_scv, scv]
    · rw [setStale_setup, setHead_setup, setup]

end Sys2Proof.Machine

/-! O8 to O10: the blocks and the end of a revolution, broken or in ACQUIRING. -/

namespace Sys2Proof.Machine

/-! ## SAMPLE_BLOCK (O8) -/

/-- Settles O8: `storeBlock` on the open revolution of a head that handles revolutions. -/
theorem sampleBlockIsStoredInOrder : Obligations.SampleBlockIsStoredInOrder := by
  intro h block samples s
  have taken : exec (.sampleBlock h block samples) s = .next (takeSampleBlock h block samples s) := rfl
  rw [taken]
  refine ⟨fun absent => ?_, fun r opened handles => ?_⟩
  · unfold takeSampleBlock
    rcases absent with none | ⟨acquiring, locked⟩
    · rw [none]; dsimp only; split <;> rfl
    · rw [(handlesRevolutions_eq_false s h).2 ⟨acquiring, locked⟩]; rfl
  · unfold takeSampleBlock
    rw [(handlesRevolutions_iff s h).2 handles, if_pos rfl, opened]
    dsimp only
    refine ⟨fun expected => ?_, fun other => ?_⟩
    · rw [storeBlock, if_pos expected]
    · rw [storeBlock, if_neg other]

/-! ## REV_END (R5) -/

theorem exec_revEnd (h : HeadId) (number count : BitVec 16) (s : State) :
    exec (.revEnd h number count) s = .next (takeRevEnd h number count s) := rfl

theorem takeRevEnd_discards {h : HeadId} {s : State} (number count : BitVec 16)
    (absent : (s.head h).openRev = none ∨ ((s.head h).state ≠ .acquiring ∧ (s.head h).state ≠ .locked)) :
    takeRevEnd h number count s = s := by
  unfold takeRevEnd
  rcases absent with none | other
  · rw [none]; dsimp only; split <;> rfl
  · rw [(handlesRevolutions_eq_false s h).2 other]; rfl

/-- R5: a REV_END closes the open revolution, and what is broken at its end is rejected. -/
theorem takeRevEnd_closes {h : HeadId} {r : OpenRevolution} {s : State} (number count : BitVec 16)
    (opened : (s.head h).openRev = some r) (handles : (s.head h).state = .acquiring ∨ (s.head h).state = .locked) :
    takeRevEnd h number count s =
      if brokenAtEnd (s.head h).rate number count r then rejectRevolution h (s.setHead h { s.head h with openRev := none })
      else judgeClosed h r (s.setHead h { s.head h with openRev := none }) := by
  unfold takeRevEnd
  rw [(handlesRevolutions_iff s h).2 handles, if_pos rfl, opened]
  rfl

theorem brokenAtEnd_iff (rate : Rate) (number count : BitVec 16) (r : OpenRevolution) :
    brokenAtEnd rate number count r = true ↔
      r.broken = true ∨ r.number ≠ number ∨ count.toNat ≠ rateSamples rate ∨ r.nextBlock < rateBlocks rate := by
  simp [brokenAtEnd, or_assoc]

/-- Settles O9: the rejection of the closed revolution, by the state of the head. -/
theorem brokenRevolutionIsRejected : Obligations.BrokenRevolutionIsRejected := by
  refine ⟨fun h number count s absent => by rw [exec_revEnd, takeRevEnd_discards number count absent],
    fun h number count r s opened broken => ?_⟩
  have rejects : (s.head h).state = .acquiring ∨ (s.head h).state = .locked →
      takeRevEnd h number count s = rejectRevolution h (s.setHead h { s.head h with openRev := none }) := fun handles => by
    rw [takeRevEnd_closes number count opened handles, if_pos ((brokenAtEnd_iff _ _ _ _).2 broken)]
  refine ⟨fun acquiring => ?_, fun locked few => ?_, fun locked third => ?_⟩
  · rw [exec_revEnd, rejects (.inl acquiring), rejectRevolution_acquiring (r := { s.head h with openRev := none }) acquiring,
      counted_setOpenRev]
  · rw [exec_revEnd, rejects (.inr locked), rejectRevolution_locked (r := { s.head h with openRev := none }) locked few,
      counted_setOpenRev]
  · intro fallen
    have exits : takeRevEnd h number count s = afterExit h (raiseAll .headState (s.setHead h fallen)) := by
      rw [rejects (.inr locked), rejectRevolution_third (r := { s.head h with openRev := none }) locked third, counted_setOpenRev]
      rfl
    obtain ⟨own, other, raised, chu, mku, scv, env, locks, signals, setup⟩ := exited_fields (h := h) (r := fallen) (s := s)
    exact ⟨_, by rw [exec_revEnd, exits], rfl, own, other, raised, chu, mku, setup⟩

/-! ## A revolution that is judged (R15) -/

theorem judgeRevolution_none (r : OpenRevolution) : judgeRevolution none r = .reference := rfl
theorem judgeRevolution_gap {q : AcceptedRevolution} {r : OpenRevolution} (gap : r.number ≠ q.number + 1) :
    judgeRevolution (some q) r = .gap := if_neg gap
theorem judgeRevolution_bad {q : AcceptedRevolution} {r : OpenRevolution} (next : r.number = q.number + 1)
    (out : (r.startTime - q.startTime).toNat < 2000 ∨ 40000 < (r.startTime - q.startTime).toNat) :
    judgeRevolution (some q) r = .badPeriod := by
  have outside : ¬ (Config.periodMinUs ≤ (r.startTime - q.startTime).toNat ∧
      (r.startTime - q.startTime).toNat ≤ Config.periodMaxUs) := by
    simp only [Config.periodMinUs, Config.periodMaxUs]; omega
  exact (if_pos next).trans (if_neg outside)
theorem judgeRevolution_period {q : AcceptedRevolution} {r : OpenRevolution} (next : r.number = q.number + 1)
    (low : 2000 ≤ (r.startTime - q.startTime).toNat) (high : (r.startTime - q.startTime).toNat ≤ 40000) :
    judgeRevolution (some q) r = .period (r.startTime - q.startTime).toNat := (if_pos next).trans (if_pos ⟨low, high⟩)

theorem lockedHeadChange_keepsEvents (s : State) : keepsEvents s (lockedHeadChange s) := by
  unfold lockedHeadChange
  dsimp only
  split
  · split
    · exact (evaluateAdvice_keepsEvents s).trans (closeTest_keepsEvents _)
    · exact (evaluateAdvice_keepsEvents s).trans (flush_keepsEvents _)
  · exact evaluateAdvice_keepsEvents s

/-- R17: the entry to LOCKED of a head with values r. -/
theorem enterLocked_fields {h : HeadId} {r : HeadReceiver} {s : State} (free : r.state ≠ .locked) :
    let t := enterState h .locked (s.setHead h r)
    t.head h = inState .locked r ∧ (∀ g, outstanding .headState (t.port g) = true) ∧ t.chu = s.chu ∧ t.mku = s.mku ∧
      t.setup = s.setup := by
  have entered : enterState h .locked (s.setHead h r) =
      lockedHeadChange (raiseAll .headState (s.setHead h (inState .locked r))) := by
    simp [enterState, free, withTimers_state_eq_inState]
  rw [entered]
  have same := lockedHeadChange_same (raiseAll .headState (s.setHead h (inState .locked r)))
  refine ⟨?_, fun g => lockedHeadChange_keepsEvents _ _ g (raiseAll_outstanding _ _ g), ?_, ?_, ?_⟩
  · rw [same.head, raiseAll_head, setHead_head_self]
  · rw [same.chu, raiseAll_chu, setHead_chu]
  · rw [same.mku, raiseAll_mku, setHead_mku]
  · rw [same.setup, raiseAll_setup, setHead_setup]

/-- Settles O10: the judgement of the closed revolution, in ACQUIRING. -/
theorem acquiringJudgesByNumberAndPeriod : Obligations.AcquiringJudgesByNumberAndPeriod := by
  rintro h _ count r s opened acquiring whole rfl counts blocks
  let closed : HeadReceiver := { s.head h with openRev := none }
  have judged : exec (.revEnd h r.number count) s = .next (judgeClosed h r (s.setHead h closed)) := by
    have sound : ¬ brokenAtEnd (s.head h).rate r.number count r = true := by
      rw [brokenAtEnd_iff]
      rintro (broken | other | short | few)
      · rw [whole] at broken; cases broken
      · exact other rfl
      · exact short counts
      · omega
    rw [exec_revEnd, takeRevEnd_closes r.number count opened (.inl acquiring), if_neg sound]
  have free : headLocked (s.setHead h closed) h = false := by simp [headLocked, closed, acquiring]
  have previous : ((s.setHead h closed).head h).previous = (s.head h).previous := by rw [setHead_head_self]
  rw [judged]
  unfold judgeClosed
  dsimp only
  rw [previous, free]
  refine ⟨fun none => ?_, fun q some => ⟨fun gap => ?_, fun next out => ?_, fun next low high few => ?_, fun next low high three => ?_⟩⟩
  · rw [none, judgeRevolution_none]
    simp [rememberRevolution, closed]
  · rw [some, judgeRevolution_gap gap]
    simp only [rememberRevolution, countEvents_one, setHead_head_self, setHead_setHead, Bool.false_eq_true, if_false, closed,
      counted_setPrevious]
  · rw [some, judgeRevolution_bad next out]
    dsimp only
    rw [rejectRevolution_acquiring (r := closed) acquiring, counted_setOpenRev]
  · rw [some, judgeRevolution_period next low high]
    have short : (s.head h).periods.length < 4 := by omega
    have more : (s.head h).periods.length + 1 ≠ 4 := by omega
    simp [rememberRevolution, takePeriod, lockGain, appendPeriod, averageOf, short, more, closed]
  · rw [some, judgeRevolution_period next low high]
    dsimp only
    obtain ⟨own, raised, chu, mku, setup⟩ := enterLocked_fields (h := h) (s := s) (r := { closed with
      previous := Option.some ⟨r.number, r.startTime⟩, periods := (s.head h).periods ++ [(r.startTime - q.startTime).toNat],
      averagedPeriod := Option.some (((s.head h).periods ++ [(r.startTime - q.startTime).toNat]).sum / 4), rejectionRun := 0 })
      (by simp [closed, acquiring])
    refine ⟨_, ?_, own, raised, chu, mku, setup⟩
    simp [rememberRevolution, takePeriod, lockGain, appendPeriod, averageOf, three, closed]

end Sys2Proof.Machine

/-! O11: the end of a revolution in LOCKED, and what a delivery leaves of the other blocks. -/

namespace Sys2Proof.Machine

/-! ## Closes leave the marks of the heads -/

theorem closeRearmost_staleMark (kind : CloseKind) (s : State) (h : HeadId) :
    staleMark (closeRearmost kind s) h = staleMark s h ∧ staleMoment (closeRearmost kind s) h = staleMoment s h := by
  cases front : s.slb.openSlices with
  | nil => rw [closeRearmost_none front]; exact ⟨rfl, rfl⟩
  | cons x rest => cases h <;> simp [staleMark, staleMoment, closeRearmost_slb front]

theorem closeTestFrom_staleMark (n : Nat) (s : State) (h : HeadId) :
    staleMark (closeTestFrom n s) h = staleMark s h ∧ staleMoment (closeTestFrom n s) h = staleMoment s h := by
  induction n generalizing s with
  | zero => exact ⟨rfl, rfl⟩
  | succ n ih =>
    unfold closeTestFrom
    split
    · exact ⟨rfl, rfl⟩
    · split
      · obtain ⟨mark, moment⟩ := ih (closeRearmost .passage s)
        obtain ⟨mark', moment'⟩ := closeRearmost_staleMark .passage s h
        exact ⟨mark.trans mark', moment.trans moment'⟩
      · exact ⟨rfl, rfl⟩

theorem closeTest_staleMark (s : State) (h : HeadId) :
    staleMark (closeTest s) h = staleMark s h ∧ staleMoment (closeTest s) h = staleMoment s h := by
  unfold closeTest
  split
  · exact ⟨rfl, rfl⟩
  · obtain ⟨mark, moment⟩ := closeTestFrom_staleMark s.slb.openSlices.length s h
    exact ⟨by rw [← mark]; cases h <;> rfl, by rw [← moment]; cases h <;> rfl⟩

/-! ## Deliveries leave the other blocks -/

@[simp] theorem setStale_head (s : State) (h g : HeadId) (b : Bool) : (setStale s h b).head g = s.head g := by
  cases h <;> cases g <;> rfl

theorem countEvents_head_other {h g : HeadId} (other : g ≠ h) (c : CounterClass) (n : Nat) (s : State) :
    (countEvents h c n s).head g = s.head g := by
  unfold countEvents
  split
  · rw [setHead_head, if_neg other]
  · rfl

@[simp] theorem settleWrites_head (s : State) (g : HeadId) : (settleWrites s).head g = s.head g := by
  unfold settleWrites; split <;> cases g <;> rfl

theorem binRevolution_head_other {v : Delivery} {g : HeadId} (other : g ≠ v.head) (i : Nat) (s : State) :
    (binRevolution v i s).head g = s.head g := by
  rw [binRevolution, (closeTest_same _).head, countEvents_head_other other, settleWrites_head]
  cases g <;> rfl

theorem overrunDiscard_head (s : State) (g : HeadId) : (overrunDiscard s).head g = s.head g := by
  unfold overrunDiscard
  dsimp only
  split <;> cases g <;> rfl

/-- A delivery concerns the head that makes it. -/
theorem deliver_head_other {v : Delivery} {g : HeadId} (other : g ≠ v.head) (s : State) : (deliver v s).head g = s.head g := by
  have binned : ∀ i (t : State), t.head g = s.head g → (binRevolution v i t).head g = s.head g := fun i t same =>
    (binRevolution_head_other other i t).trans same
  have opened : ∀ d i (t : State), (openSlice d i t).head g = t.head g := fun d i t => by cases g <;> rfl
  rcases deliver_cases v s with ⟨-, same⟩ | ⟨-, -, stale⟩ | ⟨-, -, -, same⟩ | ⟨d, -, -, -, -, chosen⟩
  · rw [same]
  · rw [stale, discardStale, setStale_head, countEvents_head_other other]
  · rw [same]
  · rw [chosen]
    unfold chooseSlice
    dsimp only
    split_ifs
    · exact binned _ s rfl
    · exact countEvents_head_other other _ _ s
    · exact overrunDiscard_head s g
    · exact countEvents_head_other other _ _ s
    · exact binned _ _ ((opened _ _ _).trans ((sameButSlices (closeForced_slices s)).head g))
    · exact binned _ _ (opened _ _ _)

/-- What a delivery leaves (R81 to R89). -/
theorem deliver_fields (v : Delivery) (s : State) :
    (∀ g, g ≠ v.head → (deliver v s).head g = s.head g) ∧ (deliver v s).chu = s.chu ∧ (deliver v s).mku = s.mku ∧
      (deliver v s).scv = s.scv ∧ (deliver v s).env = s.env ∧ (deliver v s).locks = s.locks ∧
      (deliver v s).signals = s.signals ∧ (deliver v s).setup = s.setup ∧ (deliver v s).timebase = s.timebase := by
  have masked := deliver_headsMask v s
  exact ⟨fun g other => deliver_head_other other s, (congrArg State.chu masked :), (congrArg State.mku masked :),
    (congrArg State.scv masked :), (congrArg State.env masked :), (congrArg State.locks masked :),
    (congrArg State.signals masked :), (congrArg State.setup masked :), (congrArg State.timebase masked :)⟩

/-! ## Acceptance in LOCKED (R18, R99) -/

/-- The close test of the moment of a delivery, as the state s of its REV_END tells it (log entry 28). -/
def testedWith (s : State) (r : OpenRevolution) (x : State) : State :=
  if s.slb.lastTest = some s.timebase ∧ r.startTime ≠ s.timebase then closeTest x else x

/-- That test, and a mark of the moment taken back (log entry 4). -/
def settledWith (s : State) (h : HeadId) (r : OpenRevolution) (x : State) : State :=
  if staleMark s h = true ∧ staleMoment s h = s.timebase ∧ r.startTime ≠ s.timebase then setStale (testedWith s r x) h false
  else testedWith s r x

theorem testedWith_same (s : State) (r : OpenRevolution) (x : State) : SameButSlices (testedWith s r x) x := by
  unfold testedWith
  split
  · exact closeTest_same x
  · exact sameButSlices rfl

theorem settledWith_same (s : State) (h : HeadId) (r : OpenRevolution) (x : State) : SameButSlices (settledWith s h r x) x := by
  unfold settledWith
  split
  · exact sameButSlices ((setStale_slices _ h false).trans
      (by unfold testedWith; split <;> simp))
  · exact testedWith_same s r x

theorem testedWith_stale (s : State) (r : OpenRevolution) (x : State) (h : HeadId) :
    staleMark (testedWith s r x) h = staleMark x h ∧ staleMoment (testedWith s r x) h = staleMoment x h := by
  unfold testedWith
  split
  · exact closeTest_staleMark x h
  · exact ⟨rfl, rfl⟩

/-- An accepted revolution of a LOCKED head, in terms of the state of its REV_END. -/
theorem acceptLocked_eq {h : HeadId} {r : OpenRevolution} {s a : State} (slb : a.slb = s.slb) (time : a.timebase = s.timebase) :
    acceptLocked h r a =
      deliver (deliveryOf h (a.head h).rate r) (settledWith s h r (a.setHead h { a.head h with rejectionRun := 0 })) := by
  let x : State := a.setHead h { a.head h with rejectionRun := 0 }
  have xslb : x.slb = s.slb := by simp only [x, setHead_slb, slb]
  have xtime : x.timebase = s.timebase := by simp only [x, setHead_timebase, time]
  have tested : settleTest r x = testedWith s r x := by
    unfold settleTest testedWith testedAtDelivery
    rw [xslb, xtime]
    simp only [Bool.and_eq_true, decide_eq_true_eq]
  have same := testedWith_same s r x
  obtain ⟨mark, moment⟩ := testedWith_stale s r x h
  have stale : staleMark x h = staleMark s h ∧ staleMoment x h = staleMoment s h := by
    cases h <;> simp only [staleMark, staleMoment, xslb, and_self]
  have marked : settleMark h r (testedWith s r x) = settledWith s h r x := by
    unfold settleMark settledWith markedAtDelivery
    rw [mark, moment, stale.1, stale.2, same.timebase, xtime]
    simp only [Bool.and_eq_true, decide_eq_true_eq, and_assoc]
  unfold acceptLocked
  dsimp only
  rw [show a.setHead h { a.head h with rejectionRun := 0 } = x from rfl, tested, marked, (settledWith_same s h r x).head]
  simp only [x, setHead_head_self]

theorem judgeClosed_of_period {h : HeadId} {p : Nat} {r : OpenRevolution} {s : State}
    (judged : judgeRevolution (s.head h).previous r = .period p) (locked : headLocked s h = true) :
    judgeClosed h r s = acceptLocked h r
      (if ((takePeriod h p (rememberRevolution h r s)).head h).periods.length = 4 then
        evaluateAdvice (takePeriod h p (rememberRevolution h r s)) else takePeriod h p (rememberRevolution h r s)) := by
  simp only [judgeClosed, judged, locked, if_true]

/-- A head whose advice inputs stand may be set before or after an evaluation. -/
theorem evaluateAdvice_setHead {h : HeadId} {r : HeadReceiver} {s : State} (inputs : sameAdviceHead (s.head h) r) :
    (evaluateAdvice s).setHead h r = evaluateAdvice (s.setHead h r) := by
  have same : adviceOf (s.setHead h r) = adviceOf s := adviceOf_congr
    { setup := by rw [setHead_setup]; exact sameAdviceSetup_refl s,
      heads := fun g => by
        rw [setHead_head]
        split
        · rename_i own; rw [own]; exact inputs
        · exact sameAdviceHead_refl _,
      run := by simp, pending := by simp, quality := by simp, fill := by simp, latch := by simp }
  unfold evaluateAdvice
  dsimp only
  rw [same, setHead_adv]
  split <;> cases h <;> rfl

/-- Settles O11: the judgement of the closed revolution, in LOCKED. -/
theorem lockedAcceptsAndDelivers : Obligations.LockedAcceptsAndDelivers := by
  rintro h _ count r s opened locked whole rfl counts blocks taken tested delivered frame
  let closed : HeadReceiver := { s.head h with openRev := none }
  have delivers : ∀ x, delivered x = deliver (deliveryOf h (s.head h).rate r) (settledWith s h r x) := fun x => rfl
  have framed : ∀ q, frame (delivered (s.setHead h q)) ∧ frame (delivered (evaluateAdvice (s.setHead h q))) := by
    have settled : ∀ x, SameButSlices x (s.setHead h (x.head h)) → frame (delivered x) := fun x same => by
      obtain ⟨heads, chu, mku, scv, env, locks, signals, setup, time⟩ :=
        deliver_fields (deliveryOf h (s.head h).rate r) (settledWith s h r x)
      have settledSame := settledWith_same s h r x
      rw [delivers]
      refine ⟨?_, ?_, ?_, ?_, ?_, ?_, ?_, ?_, ?_⟩
      · rw [heads _ (by cases h <;> simp [otherHead, deliveryOf]), settledSame.head, same.head, setHead_head, if_neg (by cases h <;> decide)]
      · rw [chu, settledSame.chu, same.chu, setHead_chu]
      · rw [mku, settledSame.mku, same.mku, setHead_mku]
      · rw [scv, settledSame.scv, same.scv, setHead_scv]
      · rw [env, settledSame.env, same.env, setHead_env]
      · rw [locks, settledSame.locks, same.locks, setHead_locks]
      · rw [signals, settledSame.signals, same.signals, setHead_signals]
      · rw [setup, settledSame.setup, same.setup, setHead_setup]
      · rw [time, settledSame.timebase, same.timebase, setHead_timebase]
    intro q
    refine ⟨settled _ (by rw [setHead_head_self]; exact sameButSlices rfl), settled _ ?_⟩
    rw [evaluateAdvice_head, setHead_head_self]
    exact evaluateAdvice_same _
  have accepted : ∀ b x, b.slb = s.slb → b.timebase = s.timebase → (b.head h).rate = (s.head h).rate →
      b.setHead h { b.head h with rejectionRun := 0 } = x → acceptLocked h r b = delivered x := by
    intro b x slb time rate same
    rw [acceptLocked_eq slb time, delivers, same, rate]
  have judged : exec (.revEnd h r.number count) s = .next (judgeClosed h r (s.setHead h closed)) := by
    have sound : ¬ brokenAtEnd (s.head h).rate r.number count r = true := by
      rw [brokenAtEnd_iff]
      rintro (broken | other | short | few)
      · rw [whole] at broken; cases broken
      · exact other rfl
      · exact short counts
      · omega
    rw [exec_revEnd, takeRevEnd_closes r.number count opened (.inr locked), if_neg sound]
  have isLocked : headLocked (s.setHead h closed) h = true := by simp [headLocked, closed, locked]
  have previous : ((s.setHead h closed).head h).previous = (s.head h).previous := by rw [setHead_head_self]
  rw [judged]
  refine ⟨fun none => ?_, fun q some => ?_⟩
  · obtain ⟨framedHere, -⟩ := framed taken
    refine ⟨_, ?_, rfl, framedHere⟩
    simp only [judgeClosed, previous, isLocked, none, judgeRevolution_none, if_true]
    exact congrArg _ (accepted _ _ (by simp [rememberRevolution]) (by simp [rememberRevolution])
      (by simp [rememberRevolution, closed]) (by simp [rememberRevolution, closed, taken]))
  intro p ps a
  refine ⟨fun gap => ?_, fun next low high => ?_, fun next out => ?_⟩
  · obtain ⟨framedHere, -⟩ := framed { counted .gap (s.head h) with
      openRev := none, previous := Option.some ⟨r.number, r.startTime⟩, rejectionRun := 0, periods := [] }
    refine ⟨_, ?_, rfl, framedHere⟩
    simp only [judgeClosed, previous, isLocked, some, judgeRevolution_gap gap, if_true]
    refine congrArg _ (accepted _ _ ?_ ?_ ?_ ?_) <;>
      simp only [rememberRevolution, countEvents_one, setHead_head_self, setHead_setHead, setHead_slb, setHead_timebase, closed,
        counted_setPrevious, counted_rate]
  · have appended : ps = appendPeriod p (s.head h).periods := rfl
    have history : takePeriod h p (rememberRevolution h r (s.setHead h closed)) =
        s.setHead h { s.head h with
          openRev := none, previous := Option.some ⟨r.number, r.startTime⟩, periods := ps,
          averagedPeriod := averageOf ps (s.head h).averagedPeriod } := by
      simp [takePeriod, rememberRevolution, closed, appended]
    have follows : judgeRevolution ((s.setHead h closed).head h).previous r = .period p := by
      rw [previous, some]; exact judgeRevolution_period next low high
    rw [judgeClosed_of_period follows isLocked, history, setHead_head_self]
    obtain ⟨framedQuiet, framedAdvised⟩ := framed { taken with
      periods := ps, averagedPeriod := averageOf ps (s.head h).averagedPeriod }
    by_cases four : ps.length = 4
    · rw [if_pos four, if_pos four]
      refine ⟨_, congrArg _ (accepted _ _ ?_ ?_ ?_ ?_), rfl, framedAdvised⟩
      · rw [evaluateAdvice_slb, setHead_slb]
      · rw [evaluateAdvice_timebase, setHead_timebase]
      · rw [evaluateAdvice_head, setHead_head_self]
      · rw [evaluateAdvice_head, setHead_head_self, evaluateAdvice_setHead (by rw [setHead_head_self]; exact ⟨.rfl, fun _ => rfl⟩),
          setHead_setHead]
        rfl
    · rw [if_neg four, if_neg four]
      refine ⟨_, congrArg _ (accepted _ _ ?_ ?_ ?_ ?_), rfl, framedQuiet⟩
      · rw [setHead_slb]
      · rw [setHead_timebase]
      · rw [setHead_head_self]
      · rw [setHead_head_self, setHead_setHead]
        rfl
  · simp only [judgeClosed, previous, some, judgeRevolution_bad next out]
    refine ⟨fun few => ?_, fun third => ?_⟩
    · rw [rejectRevolution_locked (r := closed) locked few, counted_setOpenRev]
    · rw [rejectRevolution_third (r := closed) locked third, counted_setOpenRev]
      rfl

end Sys2Proof.Machine

/-! O12 to O14: the timers of a head and the requests that move it. -/

namespace Sys2Proof.Machine

/-! ## A head that no close looks at may be set before or after it -/

/-- What the closes, the close test and the advice read of a head stands. -/
structure SameTrack (r q : HeadReceiver) : Prop where
  inputs : sameAdviceHead r q
  revolution : q.openRev = r.openRev

theorem SameTrack.refl (r : HeadReceiver) : SameTrack r r := ⟨sameAdviceHead_refl r, rfl⟩

theorem askCommit_setHead (h : HeadId) (r : HeadReceiver) (s : State) : (askCommit s).setHead h r = askCommit (s.setHead h r) := by
  have free : storeFree (s.setHead h r) = storeFree s := by cases h <;> rfl
  unfold askCommit
  rw [free]
  split <;> cases h <;> rfl

theorem setHead_setSlb (h : HeadId) (r : HeadReceiver) (s : State) (b : SliceBuilder) :
    ({ s with slb := b } : State).setHead h r = { s.setHead h r with slb := b } := by cases h <;> rfl

theorem appendPending_setHead {h : HeadId} {r : HeadReceiver} {x : PendingSlice} {rest : List OpenSlice} {s : State}
    (same : sameAdviceHead (s.head h) r) : (appendPending x rest s).setHead h r = appendPending x rest (s.setHead h r) := by
  have queued : ∀ b, (evaluateAdvice { s with slb := b }).setHead h r = evaluateAdvice { s.setHead h r with slb := b } := fun b => by
    rw [evaluateAdvice_setHead (by cases h <;> exact same), setHead_setSlb]
  unfold appendPending
  dsimp only
  rw [setHead_slb]
  split
  · rw [askCommit_setHead, queued]
  · rw [queued]

theorem reportClass_setHead {h : HeadId} {r : HeadReceiver} {c : SectorState} {stop : Bool} {s : State}
    (same : sameAdviceHead (s.head h) r) : (reportClass c stop s).setHead h r = reportClass c stop (s.setHead h r) := by
  unfold reportClass
  rw [setHead_setup, setHead_adv]
  split
  · rw [evaluateAdvice_setHead (by cases h <;> exact same)]
    cases h <;> rfl
  · rfl

theorem closeRearmost_setHead {h : HeadId} {r : HeadReceiver} {kind : CloseKind} {s : State} (same : sameAdviceHead (s.head h) r) :
    (closeRearmost kind s).setHead h r = closeRearmost kind (s.setHead h r) := by
  have opened : (s.setHead h r).slb.openSlices = s.slb.openSlices := by rw [setHead_slb]
  cases front : s.slb.openSlices with
  | nil => rw [closeRearmost_none front, closeRearmost_none (opened.trans front)]
  | cons x rest =>
    have closed : closedSlice kind (s.setHead h r) x = closedSlice kind s x := by cases h <;> rfl
    rw [closeRearmost_cons kind x rest s front, closeRearmost_cons kind x rest _ (opened.trans front), closed,
      reportClass_setHead, appendPending_setHead same]
    rw [(sameButSlices (appendPending_slices _ rest s)).head]
    exact same

theorem closeMany_setHead {h : HeadId} {r : HeadReceiver} (kind : CloseKind) (n : Nat) {s : State}
    (same : sameAdviceHead (s.head h) r) : (closeMany kind n s).setHead h r = closeMany kind n (s.setHead h r) := by
  induction n generalizing s with
  | zero => rfl
  | succ n ih =>
    rw [closeMany, closeMany, ih (by rw [(closeRearmost_same _ _).head]; exact same), closeRearmost_setHead same]

theorem flush_setHead {h : HeadId} {r : HeadReceiver} {s : State} (same : sameAdviceHead (s.head h) r) :
    (flush s).setHead h r = flush (s.setHead h r) := by
  rw [flush, closeMany_setHead _ _ same, flush, setHead_slb]

theorem passedByAll_setHead {h : HeadId} {r : HeadReceiver} {s : State} (same : SameTrack (s.head h) r) (x : OpenSlice) :
    passedByAll (s.setHead h r) x = passedByAll s x := by
  have locked : ∀ g, headLocked (s.setHead h r) g = headLocked s g := fun g => by
    unfold headLocked
    rw [setHead_head]
    split
    · rename_i own; rw [own]; exact decide_eq_decide.2 same.inputs.1
    · rfl
  have position : ∀ d g, headPosition (s.setHead h r) d g = headPosition s d g := fun d g => by
    have live : headChainage (s.setHead h r) g = headChainage s g := by cases h <;> rfl
    have revolution : ((s.setHead h r).head g).openRev = (s.head g).openRev := by
      rw [setHead_head]
      split
      · rename_i own; rw [own]; exact same.revolution
      · rfl
    unfold headPosition
    rw [live, revolution]
  unfold passedByAll
  simp only [locked, position, setHead_setup]

theorem closeTestFrom_setHead {h : HeadId} {r : HeadReceiver} (n : Nat) {s : State} (same : SameTrack (s.head h) r) :
    (closeTestFrom n s).setHead h r = closeTestFrom n (s.setHead h r) := by
  induction n generalizing s with
  | zero => rfl
  | succ n ih =>
    unfold closeTestFrom
    rw [setHead_slb]
    split
    · rfl
    · rw [passedByAll_setHead same]
      split
      · rw [ih (by rw [(closeRearmost_same _ _).head]; exact same), closeRearmost_setHead same.inputs]
      · rfl

theorem closeTest_setHead {h : HeadId} {r : HeadReceiver} {s : State} (same : SameTrack (s.head h) r) :
    (closeTest s).setHead h r = closeTest (s.setHead h r) := by
  unfold closeTest
  rw [setHead_slb]
  split
  · rfl
  · rw [← closeTestFrom_setHead _ same]
    cases h <;> rfl

theorem afterExit_setHead {h : HeadId} {r : HeadReceiver} {s : State} (same : SameTrack (s.head h) r) :
    (afterExit h s).setHead h r = afterExit h (s.setHead h r) := by
  have advised : (evaluateAdvice s).setHead h r = evaluateAdvice (s.setHead h r) := evaluateAdvice_setHead same.inputs
  have other : (s.setHead h r).head (otherHead h) = s.head (otherHead h) := by
    rw [setHead_head, if_neg (by cases h <;> decide)]
  unfold afterExit
  simp only [evaluateAdvice_slb, evaluateAdvice_head, setHead_slb, other]
  split
  · split
    · rw [closeTest_setHead (by rw [evaluateAdvice_head]; exact same), advised]
    · rw [flush_setHead (by rw [evaluateAdvice_head]; exact same.inputs), advised]
  · exact advised

/-! ## Entry to TRAINING (R2, R8, R11) -/

/-- What the entry to TRAINING makes of a head: its timer runs and the first TRAIN is sent. -/
def trainingBegun (r : HeadReceiver) : HeadReceiver := { inState .training r with trainSent := some r.rate }

theorem enterTraining_of_free {h : HeadId} {r : HeadReceiver} {s : State} (free : r.state ≠ .locked) (other : r.state ≠ .training) :
    enterTraining h (s.setHead h r) = raiseAll .headState (s.setHead h (trainingBegun r)) := by
  rw [enterTraining, enterState_setHead free (by simp), if_neg other, raiseAll_setHead, sendTrain_setHead, ← raiseAll_setHead]
  rfl

theorem enterTraining_of_locked {h : HeadId} {r : HeadReceiver} {s : State} (locked : r.state = .locked) :
    enterTraining h (s.setHead h r) = afterExit h (raiseAll .headState (s.setHead h (trainingBegun r))) := by
  rw [enterTraining, enterState_of_locked locked (by simp), sendTrain]
  have own : (afterExit h (raiseAll .headState (s.setHead h (inState .training r)))).head h = inState .training r := by
    rw [(afterExit_same _ _).head, raiseAll_head, setHead_head_self]
  have same : SameTrack ((raiseAll .headState (s.setHead h (inState .training r))).head h) (trainingBegun r) := by
    rw [raiseAll_head, setHead_head_self]
    exact ⟨⟨.rfl, fun _ => rfl⟩, rfl⟩
  rw [own]
  change State.setHead _ h (trainingBegun r) = _
  rw [afterExit_setHead same, raiseAll_setHead, setHead_setHead, raiseAll_setHead]

/-! ## The timers (O12) -/

/-- Settles O12: the settle timer by the findings of R8, the watchdog by the open revolution and the state of R11. -/
theorem headTimersExpire : Obligations.HeadTimersExpire := by
  intro h s r q
  have settles : exec (.settleTimerExpiry h) s = .next (settleExpires h s) := rfl
  have watches : exec (.revolutionWatchdogExpiry h) s = .next (watchdogExpires h s) := rfl
  have settling : (s.head h).state = .powering → settleExpires h s =
      if (s.scv.line h).cls ≠ .normal then enterFaulted h .line s
      else if (s.scv.supply h).state = .outOfWindow then enterFaulted h .supply s else enterTraining h s := fun powering => by
    rw [settleExpires, powering]
  have state : r.state = (s.head h).state := by
    simp only [r]
    split <;> simp
  have begun : trainingBegun { r with openRev := none } = q := rfl
  have dropped : handlesRevolutions s h = true →
      watchdogExpires h s = enterTraining h (s.setHead h { r with openRev := none }) := fun handles => by
    rw [watchdogExpires, if_pos handles]
    dsimp only
    by_cases shut : (s.head h).openRev = none
    · have same : ({ r with openRev := none } : HeadReceiver) = s.head h := by
        simp only [r, if_pos shut]
        rw [← shut]
      rw [same, setHead_same, shut]; rfl
    · have counts : r = counted .rejected (s.head h) := if_neg shut
      rw [if_pos (Option.isSome_iff_ne_none.2 shut), dropRevolution, countEvents_one, setHead_head_self, setHead_setHead,
        counted_setOpenRev, counts]
  refine ⟨fun other => ?_, fun powering line => ?_, fun powering line supply => ?_, fun powering line supply => ?_,
    fun acquiring locked => ?_, fun acquiring => ?_, fun locked => ?_⟩
  · rw [settles, settleExpires]
    split
    · contradiction
    · rfl
  · rw [settles, settling powering, if_pos line, enterFaulted_of_active (by simp [powering]) (by simp [powering])]
  · rw [settles, settling powering, if_neg (by simp [line]), if_pos supply,
      enterFaulted_of_active (by simp [powering]) (by simp [powering])]
  · have begins := enterTraining_of_free (h := h) (r := s.head h) (s := s) (by simp [powering]) (by simp [powering])
    rw [setHead_same] at begins
    rw [settles, settling powering, if_neg (by simp [line]), if_neg (by simp [supply]), begins]
    rfl
  · rw [watches, watchdogExpires, (handlesRevolutions_eq_false s h).2 ⟨acquiring, locked⟩]; rfl
  · rw [watches, dropped ((handlesRevolutions_iff s h).2 (.inl acquiring)),
      enterTraining_of_free (by simp [state, acquiring]) (by simp [state, acquiring]), begun]
  · obtain ⟨own, other, raised, chu, mku, scv, env, locks, signals, setup⟩ := exited_fields (h := h) (r := q) (s := s)
    refine ⟨_, ?_, rfl, own, other, raised, chu, mku, scv, setup, locks⟩
    rw [watches, dropped ((handlesRevolutions_iff s h).2 (.inr locked)), enterTraining_of_locked (r := { r with openRev := none }) (state.trans locked), begun]

/-! ## The requests (O13, O14) -/

@[simp] theorem setSlot_head (p : PortId) (x : Slot) (s : State) (h : HeadId) : (setSlot p x s).head h = s.head h := by
  rw [setSlot, setPort_head]
@[simp] theorem setSlot_latch (p q : PortId) (x : Slot) (s : State) : ((setSlot p x s).port q).latch = (s.port q).latch := by
  rw [setSlot, setPort_port]
  split
  · rename_i own; rw [own]
  · rfl

/-- An event that is outstanding everywhere is raised to no effect. -/
theorem raiseAll_of_outstanding {e : Event} {s : State} (raised : ∀ p, outstanding e (s.port p) = true) : raiseAll e s = s := by
  have stands : ∀ m : MasterPort, outstanding e m = true → { m with latch := latched e m.latch } = m := fun m bit => by
    have same : latched e m.latch = m.latch := by
      apply BitVec.eq_of_getLsbD_eq
      intro i small
      by_cases own : i = eventBit e
      · subst own
        rw [latched_bit]
        exact bit.symm
      · have apart : (1#32 <<< eventBit e).getLsbD i = false := by
          rw [BitVec.getLsbD_shiftLeft]
          by_cases below : i < eventBit e
          · simp [below]
          · have : i - eventBit e ≠ 0 := by omega
            simp [this]
        rw [latched, BitVec.getLsbD_or, apart, Bool.or_false]
    rw [same]
  have ports : raiseAll e s = { s with
      port0 := { s.port0 with latch := latched e s.port0.latch }, port1 := { s.port1 with latch := latched e s.port1.latch },
      port2 := { s.port2 with latch := latched e s.port2.latch } } := rfl
  rw [ports, stands s.port0 (raised .p0), stands s.port1 (raised .p1), stands s.port2 (raised .p2)]

/-- What the entry to POWERING makes of a head (R8). -/
def powered (u : HeadSetup) (r : HeadReceiver) : HeadReceiver :=
  { inState .powering r with
    rate := u.maxRate, trainFailures := 0, periods := [], previous := none, rejectionRun := 0, averagedPeriod := none,
    openRev := none }

theorem enterPowering_eq (h : HeadId) (s : State) :
    enterPowering h s = enterState h .powering
      (s.setHead h (poweringValues (s.setup.head h).maxRate { s.head h with openRev := none })) := by
  simp [enterPowering, dropRevolution]

theorem restartHead_of_free {h : HeadId} {s : State} (free : (s.head h).state ≠ .locked) :
    restartHead h s = raiseAll .headState (s.setHead h (powered (s.setup.head h) (s.head h))) := by
  have twice : ∀ u, raiseAll .headState (raiseAll .headState u) = raiseAll .headState u := fun u =>
    raiseAll_of_outstanding (raiseAll_outstanding .headState u)
  rw [restartHead, enterPowering_eq,
    enterState_setHead (r := poweringValues (s.setup.head h).maxRate { s.head h with openRev := none }) free (by simp)]
  split
  · rfl
  · exact twice _

theorem restartHead_of_locked {h : HeadId} {s : State} (locked : (s.head h).state = .locked) :
    restartHead h s = afterExit h (raiseAll .headState (s.setHead h (powered (s.setup.head h) (s.head h)))) := by
  rw [restartHead, enterPowering_eq,
    enterState_of_locked (r := poweringValues (s.setup.head h).maxRate { s.head h with openRev := none }) locked (by simp)]
  exact raiseAll_of_outstanding fun p => afterExit_keepsEvents h _ _ p (raiseAll_outstanding _ _ p)

theorem headPower_eq_false (s : State) (h : HeadId) :
    headPower s h = false ↔ (s.head h).state = .off ∨ (s.head h).state = .faulted := by
  unfold headPower
  cases (s.head h).state <;> simp

/-- The answer of a request that moved a LOCKED head, and what the exit leaves. -/
theorem exited_answer {p : PortId} {h : HeadId} {q : HeadReceiver} {echo : Byte} {s : State} :
    let t := withAnswer p .ok echo [] (afterExit h (raiseAll .headState ((afterFrame p s).setHead h q)))
    t.head h = q ∧ t.head (otherHead h) = s.head (otherHead h) ∧
      (t.port p).slot = .ready { status := .ok, echo := echo, payload := [] } ∧
      (∀ q, outstanding .headState (t.port q) = true) ∧ t.chu = s.chu ∧ t.mku = s.mku ∧ t.scv = s.scv ∧ t.env = s.env ∧
      t.locks = s.locks ∧ t.signals = s.signals ∧ t.setup = s.setup := by
  obtain ⟨own, other, raised, chu, mku, scv, env, locks, signals, setup⟩ :=
    exited_fields (h := h) (r := q) (s := afterFrame p s)
  refine ⟨?_, ?_, withAnswer_slot _ _ _ _ _, fun g => ?_, ?_, ?_, ?_, ?_, ?_, ?_, ?_⟩
  · rw [withAnswer, setSlot_head, own]
  · rw [withAnswer, setSlot_head, other, afterFrame_head]
  · rw [outstanding, withAnswer, setSlot_latch]; exact raised g
  · rw [withAnswer, setSlot_chu, chu, afterFrame_chu]
  · rw [withAnswer, setSlot_mku, mku, afterFrame_mku]
  · rw [withAnswer, setSlot_scv, scv, afterFrame_scv]
  · rw [withAnswer, setSlot_env, env, afterFrame_env]
  · rw [withAnswer, setSlot_locks, locks, afterFrame_locks]
  · rw [withAnswer, setSlot_signals, signals, afterFrame_signals]
  · rw [withAnswer, setSlot_setup, setup, afterFrame_setup]

/-- Settles O13: a restart and a power off by the state that the head leaves. -/
theorem headRequestsMoveTheHead : Obligations.HeadRequestsMoveTheHead := by
  refine ⟨fun h s => headPower_eq_false s h, ?_⟩
  intro p h b s idle restarted off
  refine ⟨fun one two => ⟨?_, ?_⟩, fun number => ?_⟩
  · exact congrArg _ (plainRequest_unchanged (r := bare .badValue) idle 0x30 (headRequest_other one two _ _))
  · exact congrArg _ (plainRequest_unchanged (r := bare .badValue) idle 0x31 (headRequest_other one two _ _))
  have restarts : exec (.headRestart p b) s = .next (withAnswer p (restartRequest h (afterFrame p s)).2.status 0x30
      (restartRequest h (afterFrame p s)).2.payload (restartRequest h (afterFrame p s)).1) := by
    have := plainRequest_idle idle 0x30 (headRequest b restartRequest)
    rw [headRequest_number number] at this
    exact congrArg _ this
  have powersOff : exec (.headPowerOff p b) s = .next (withAnswer p .ok 0x31 [] (enterOff h (afterFrame p s))) := by
    have := plainRequest_idle idle 0x31 (headRequest b powerOffRequest)
    rw [headRequest_number number] at this
    exact congrArg _ this
  have accepted : ¬ ((s.head h).state = .faulted ∧ (s.scv.line h).cls ≠ .normal) →
      exec (.headRestart p b) s = .next (withAnswer p .ok 0x30 [] (restartHead h (afterFrame p s))) := fun sound => by
    rw [restarts, restartRequest, afterFrame_head, afterFrame_scv, if_neg sound]
    rfl
  have poweredHere : powered ((afterFrame p s).setup.head h) ((afterFrame p s).head h) = restarted := by
    rw [afterFrame_setup, afterFrame_head]; rfl
  have entersOff : ∀ t : State, t.head h = s.head h → enterOff h t =
      enterState h .off (t.setHead h { s.head h with openRev := none }) := fun t same => by rw [enterOff, dropRevolution, same]
  refine ⟨fun faulted line => ?_, fun sound free => ?_, fun isOff => ?_, fun notOff free => ?_, ?_⟩
  · rw [restarts, restartRequest, afterFrame_head, afterFrame_scv, if_pos ⟨faulted, line⟩]
    rfl
  · rw [accepted sound, restartHead_of_free (by rwa [afterFrame_head]), poweredHere]
  · rw [powersOff, entersOff _ (afterFrame_head p h s),
      enterState_setHead (r := { s.head h with openRev := none }) (by simp [isOff]) (by simp), if_pos isOff]
    rfl
  · rw [powersOff, entersOff _ (afterFrame_head p h s),
      enterState_setHead (r := { s.head h with openRev := none }) free (by simp), if_neg notOff]
    rfl
  · intro c member locked
    rcases List.mem_pair.1 member with rfl | rfl
    · simp only [if_true]
      refine ⟨_, ?_, rfl, exited_answer⟩
      rw [accepted (by simp [locked]), restartHead_of_locked (by rwa [afterFrame_head]), poweredHere]
    · simp only [reduceCtorEq, if_false]
      refine ⟨_, ?_, rfl, exited_answer⟩
      rw [powersOff, entersOff _ (afterFrame_head p h s),
        enterState_of_locked (r := { s.head h with openRev := none }) locked (by simp)]
      rfl

theorem selectionOf_code {x : Byte} {c : CounterClass} (code : x.toNat = selectionCode c) : selectionOf x = some c := by
  rw [selectionOf, code]; cases c <;> rfl

theorem selectionOf_above {x : Byte} (above : 5 < x.toNat) : selectionOf x = none := by
  unfold selectionOf
  split
  · omega
  · omega
  · omega
  · omega
  · omega
  · omega
  · rfl

/-- Settles O14: a selection and a clear set the counter of the numbered head. -/
theorem headCounterIsSelectedAndCleared : Obligations.HeadCounterIsSelectedAndCleared := by
  refine fun p b x s idle => ⟨fun one two => ⟨?_, ?_⟩, fun above => ?_, fun h number => ⟨fun c code => ?_, ?_⟩⟩
  · exact congrArg _ (plainRequest_unchanged (r := bare .badValue) idle 0x33 (headRequest_other one two _ _))
  · exact congrArg _ (plainRequest_unchanged (r := bare .badValue) idle 0x34 (headRequest_other one two _ _))
  · refine congrArg _ (plainRequest_unchanged (r := bare .badValue) idle 0x33 ?_)
    unfold headRequest
    split
    · rfl
    · rw [selectCounterRequest, selectionOf_above above]
  · have := plainRequest_idle idle 0x33 (headRequest b (selectCounterRequest x))
    rw [headRequest_number number, selectCounterRequest, selectionOf_code code] at this
    dsimp only at this
    rw [afterFrame_head] at this
    exact congrArg _ this
  · have := plainRequest_idle idle 0x34 (headRequest b clearCounterRequest)
    rw [headRequest_number number, clearCounterRequest] at this
    dsimp only at this
    rw [afterFrame_head] at this
    exact congrArg _ this

end Sys2Proof.Machine

/-! O15 to O17: conversions. -/

namespace Sys2Proof.Machine

theorem exec_conversion (ch : Channel) (raw : BitVec 12) (s : State) :
    exec (.conversion ch raw) s = .next (convert ch raw { s with conversionTime := 0, nextChannel := channelAfter ch }) := rfl

/-- A head that a finding of the Sense Converter reaches: not in OFF, not in FAULTED (R12). -/
theorem headActive_iff (s : State) (h : HeadId) :
    headActive s h = true ↔ (s.head h).state ≠ .off ∧ (s.head h).state ≠ .faulted := by
  unfold headActive
  cases (s.head h).state <;> simp

theorem headActive_eq_false (s : State) (h : HeadId) :
    headActive s h = false ↔ (s.head h).state = .off ∨ (s.head h).state = .faulted := by
  unfold headActive
  cases (s.head h).state <;> simp

/-! ## Supplies (O15) -/

theorem supplySide_eq (u : SupplySetup) (code : Nat) :
    supplySide u code = if u.low ≤ code ∧ code ≤ u.high then .inWindow else .outOfWindow := by
  simp only [supplySide, insideWindow, Bool.and_eq_true, decide_eq_true_eq]

theorem reportSupply_inWindow (h : HeadId) (s : State) : reportSupply h .inWindow s = s := by simp [reportSupply]

theorem reportSupply_outOfWindow (h : HeadId) (s : State) :
    reportSupply h .outOfWindow s = if headActive s h then enterFaulted h .supply s else s := by simp [reportSupply]

/-- R27: a conversion of a supply, with the monitor that the debounced judgement gives. -/
theorem convertSupply_eq (h : HeadId) (raw : BitVec 12) (s : State) :
    let w := pushCode raw (s.scv.supply h).channel.window
    let code := filterCode (s.setup.avgSupply h) w
    let m := judgeSupply (s.setup.supply h) code { s.scv.supply h with channel := { window := w, filtered := some code } }
    convertSupply h raw s =
      if m.state = (s.scv.supply h).state then { s with scv := s.scv.setSupply h m }
      else reportSupply h m.state (raiseAll .supplyRange { s with scv := s.scv.setSupply h m }) := rfl

theorem supplyState_cases (side : SupplyState) : side = .inWindow ∨ side = .outOfWindow := by cases side <;> simp

/-- Settles O15: the three branches of the debounced judgement, and the report of a changed state. -/
theorem supplyConversionIsDebounced : Obligations.SupplyConversionIsDebounced := by
  intro h raw s u old w n code side channel
  have sideEq : supplySide (s.setup.supply h) code = side := supplySide_eq _ _
  have here : ({ s with conversionTime := 0, nextChannel := channelAfter (.supply h) } : State) = u := by
    simp only [u]; cases h <;> rfl
  have heads : ∀ c g, ({ u with scv := c } : State).head g = s.head g := fun c g => by cases g <;> rfl
  let judged : SupplyMonitor := judgeSupply (s.setup.supply h) code { old with channel := channel }
  have taken : exec (.conversion (.supply h) raw) s = .next (
      if judged.state = old.state then { u with scv := s.scv.setSupply h judged }
      else reportSupply h judged.state (raiseAll .supplyRange { u with scv := s.scv.setSupply h judged })) := by
    rw [exec_conversion, here, convert, convertSupply_eq]
    rfl
  have judges : judged = if side = old.state then { channel := channel, state := old.state, count := 0 }
      else if old.count + 1 = 3 then { channel := channel, state := side, count := 0 }
      else { channel := channel, state := old.state, count := old.count + 1 } := by
    simp only [judged, judgeSupply, sideEq]
  rw [taken, judges]
  refine ⟨fun stands => ?_, fun other few => ?_, fun other third => ?_⟩
  · simp [stands]
  · simp [other, few]
  · intro t
    have reported : (if side = old.state then ({ u with scv := s.scv.setSupply h { channel := channel, state := side, count := 0 } } : State)
        else reportSupply h side t) = reportSupply h side t := if_neg other
    have state : t.head h = s.head h := by rw [raiseAll_head]; exact heads _ h
    simp only [other, third, if_false, if_true]
    change (_ → Host.Outcome.next (reportSupply h side t) = _) ∧ (_ → _ → _ → _ → Host.Outcome.next (reportSupply h side t) = _) ∧
      (_ → _ → Host.Outcome.next (reportSupply h side t) = _)
    refine ⟨fun quiet => ?_, fun out notOff notFaulted free => ?_, fun out locked => ?_⟩
    · rcases supplyState_cases side with inside | out
      · rw [inside, reportSupply_inWindow]
      · have still : headActive t h = false := by
          rw [headActive_eq_false, state]
          exact quiet.resolve_left (by simp [out])
        rw [out, reportSupply_outOfWindow, still]
        rfl
    · rw [out, reportSupply_outOfWindow, (headActive_iff t h).2 (by rw [state]; exact ⟨notOff, notFaulted⟩), if_pos rfl,
        enterFaulted_of_active (by rwa [state]) (by rwa [state]), state]
    · rw [out, reportSupply_outOfWindow, (headActive_iff t h).2 (by rw [state, locked]; simp), if_pos rfl,
        enterFaulted_of_locked (by rwa [state]), state]

/-! ## Lines (O16) -/

theorem reportLine_normal (h : HeadId) (s : State) : reportLine h .normal s = s := by simp [reportLine]

theorem reportLine_abnormal {c : LineClass} (abnormal : c ≠ .normal) (h : HeadId) (s : State) :
    reportLine h c s = if headActive s h then enterFaulted h .line s else s := by simp [reportLine, abnormal]

/-- R29, R30: a conversion of a line, with the monitor that the debounced judgement gives. -/
theorem convertLine_eq (h : HeadId) (raw : BitVec 12) (s : State) :
    let w := pushCode raw (s.scv.line h).channel.window
    let code := filterCode (s.setup.avgLine h) w
    let m := judgeLine code { s.scv.line h with channel := { window := w, filtered := some code } }
    convertLine h raw s =
      if m.cls = (s.scv.line h).cls then { s with scv := s.scv.setLine h m }
      else reportLine h m.cls (raiseAll .lineFault { s with scv := s.scv.setLine h m }) := rfl

/-- Settles O16: the four branches of the debounced judgement, and the report of a changed class. -/
theorem lineConversionIsDebounced : Obligations.LineConversionIsDebounced := by
  intro h raw s u old w n code band channel
  have here : ({ s with conversionTime := 0, nextChannel := channelAfter (.line h) } : State) = u := by
    simp only [u]; cases h <;> rfl
  have heads : ∀ c g, ({ u with scv := c } : State).head g = s.head g := fun c g => by cases g <;> rfl
  let judged : LineMonitor := judgeLine code { old with channel := channel }
  have taken : exec (.conversion (.line h) raw) s = .next (
      if judged.cls = old.cls then { u with scv := s.scv.setLine h judged }
      else reportLine h judged.cls (raiseAll .lineFault { u with scv := s.scv.setLine h judged })) := by
    rw [exec_conversion, here, convert, convertLine_eq]
    rfl
  have judges : judged = if band = old.cls then { channel := channel, cls := old.cls, candidate := none, count := 0 }
      else if old.candidate = some band then
        if old.count + 1 = 3 then { channel := channel, cls := band, candidate := none, count := 0 }
        else { channel := channel, cls := old.cls, candidate := old.candidate, count := old.count + 1 }
      else { channel := channel, cls := old.cls, candidate := some band, count := 1 } := rfl
  rw [taken, judges]
  refine ⟨fun stands => ?_, fun other new => ?_, fun other again few => ?_, fun other again third => ?_⟩
  · simp [stands]
  · simp [other, new]
  · simp [other, again, few]
  · intro m t
    have state : t.head h = s.head h := by rw [raiseAll_head]; exact heads _ h
    simp only [other, again, third, if_false, if_true]
    change (_ → Host.Outcome.next (reportLine h band t) = _) ∧ (_ → _ → _ → _ → Host.Outcome.next (reportLine h band t) = _) ∧
      (_ → _ → Host.Outcome.next (reportLine h band t) = _)
    refine ⟨fun quiet => ?_, fun abnormal notOff notFaulted free => ?_, fun abnormal locked => ?_⟩
    · by_cases normal : band = .normal
      · rw [normal, reportLine_normal]
      · have still : headActive t h = false := by
          rw [headActive_eq_false, state]
          exact quiet.resolve_left normal
        rw [reportLine_abnormal normal, still]
        rfl
    · rw [reportLine_abnormal abnormal, (headActive_iff t h).2 (by rw [state]; exact ⟨notOff, notFaulted⟩), if_pos rfl,
        enterFaulted_of_active (by rwa [state]) (by rwa [state]), state]
    · rw [reportLine_abnormal abnormal, (headActive_iff t h).2 (by rw [state, locked]; simp), if_pos rfl,
        enterFaulted_of_locked (by rwa [state]), state]

/-! ## Cant (O17) -/

theorem cantEvent_invalid (old : CantStatus) : cantEvent old .invalid = decide (old ≠ .invalid) := by cases old <;> rfl
theorem cantEvent_valid (old : CantStatus) : cantEvent old .valid = decide (old = .invalid) := by cases old <;> rfl

/-- R32: the rounding of the spec, a remainder of 128 rounding away from zero. -/
theorem cantResult_eq (zeroCode gain code : Nat) :
    let product : Int := ((code : Int) - zeroCode) * gain
    let magnitude : Int := product.natAbs / 256 + (if 128 ≤ product.natAbs % 256 then 1 else 0)
    cantResult zeroCode gain code = if product < 0 then -magnitude else magnitude := by
  intro product magnitude
  have half : ∀ r : Nat, 256 ≤ 2 * r ↔ 128 ≤ r := fun r => by omega
  have cast : ((product.natAbs / 256 + (if 128 ≤ product.natAbs % 256 then 1 else 0) : Nat) : Int) = magnitude := by
    simp only [magnitude]
    split <;> simp
  simp only [cantResult, roundDiv, half]
  rw [← cast]

theorem convertCant_eq (raw : BitVec 12) (s : State) :
    let w := pushCode raw s.scv.cant.channel.window
    let code := filterCode s.setup.avgCant w
    let m := judgeCant s.setup.cantZero s.setup.cantGain code { s.scv.cant with channel := { window := w, filtered := some code } }
    convertCant raw s =
      if cantEvent s.scv.cant.status m.status then raiseAll .cantInvalid { s with scv := { s.scv with cant := m } }
      else { s with scv := { s.scv with cant := m } } := rfl

/-- Settles O17: the filtered code decides the status, and its changes raise CANT_INVALID. -/
theorem cantConversionRoundsAndClamps : Obligations.CantConversionRoundsAndClamps := by
  intro raw s u old w n code product magnitude rounded channel
  let judged : CantMonitor := judgeCant s.setup.cantZero s.setup.cantGain code { old with channel := channel }
  have taken : exec (.conversion .cant raw) s = .next (
      if cantEvent old.status judged.status then raiseAll .cantInvalid { u with scv := { s.scv with cant := judged } }
      else { u with scv := { s.scv with cant := judged } }) := rfl
  rw [taken]
  by_cases outside : code = 0 ∨ code = 4095
  · have judges : judged = { old with channel := channel, status := .invalid } := if_pos outside
    rw [if_pos outside, judges, cantEvent_invalid]
    by_cases was : old.status = .invalid <;> simp [was]
  · have result : cantResult s.setup.cantZero s.setup.cantGain code = rounded := cantResult_eq _ _ _
    have judges : judged =
        { channel := channel, status := .valid, value := max (-1000) (min 1000 rounded),
          clamped := decide (rounded < -1000 ∨ 1000 < rounded) } := by
      simp only [judged, judgeCant, if_neg outside, result, Bool.decide_or, clampInt_eq_max_min (show (-1000 : Int) ≤ 1000 by decide)]
    rw [if_neg outside, judges, cantEvent_valid]
    by_cases was : old.status = .invalid <;> simp [was]

end Sys2Proof.Machine

/-! O3: one microsecond. -/

namespace Sys2Proof.Machine

theorem mem_placeDue (s : State) (c d : Instr) : d ∈ (placeDue s c).pending ↔ d = c ∨ d ∈ s.pending := by
  unfold placeDue
  split
  · rename_i empty; simp [empty]
  · have place : Config.dueSlot s.freeCount % (s.pending.length + 1) ≤ s.pending.length :=
      Nat.le_of_lt_succ (Nat.mod_lt _ (Nat.succ_pos _))
    exact List.mem_insertIdx place

/-- What falls due is put on the queue, and nothing else. -/
theorem mem_foldl_placeDue (cs : List Instr) (s : State) (d : Instr) : d ∈ (cs.foldl placeDue s).pending ↔ d ∈ cs ∨ d ∈ s.pending := by
  induction cs generalizing s with
  | nil => simp
  | cons c cs ih => rw [List.foldl_cons, ih, mem_placeDue, List.mem_cons]; tauto

theorem mem_tick {s : State} (empty : s.pending = []) (d : Instr) : d ∈ (tick s).pending ↔ d ∈ dueEvents s := by
  rw [tick, mem_foldl_placeDue, show (advanceClocks s).pending = [] from empty]
  simp

theorem mem_dueIf (b : Bool) (c d : Instr) : d ∈ dueIf b c ↔ b = true ∧ d = c := by
  unfold dueIf; split <;> simp [*]

theorem countDown_eq (t : Option Nat) : countDown t = t.map (· - 1) := by
  unfold countDown
  split
  · rfl
  · rename_i other
    cases t with
    | none => rfl
    | some n =>
      cases n with
      | zero => rfl
      | succ n => exact absurd rfl (other n)

theorem tickHead_eq (r : HeadReceiver) :
    tickHead r = { r with settleTimer := r.settleTimer.map (· - 1), attemptTimer := r.attemptTimer.map (· - 1),
                          watchdog := r.watchdog.map (· - 1) } := by
  simp only [tickHead, countDown_eq]

theorem tickPort_eq (m : MasterPort) :
    tickPort m = { m with link := match m.link with
      | .down => .down
      | .up n => .up (n + 1) } := by
  rw [tickPort]
  cases m.link <;> rfl

/-- A conversion is on the queue only where the clock puts it there. -/
theorem conversion_mem_dueEvents (s : State) (ch : Channel) (raw : BitVec 12) :
    Instr.conversion ch raw ∈ dueEvents s ↔ conversionDue s = true ∧ ch = s.nextChannel ∧ raw = Config.inputCode s.freeCount := by
  have store : Instr.conversion ch raw ∉ dueOfStore s := by
    unfold dueOfStore
    split <;> simp
  simp [dueEvents, dueOfHead, mem_dueIf, store]

/-- Settles O3: what the clocks do, and the membership of each due event in the queue. -/
theorem idleStepPassesOneMicrosecond : Obligations.IdleStepPassesOneMicrosecond := by
  intro s empty
  have stepped : step s = .next (tick s) := by unfold step; rw [empty]
  obtain ⟨q, n, ticked⟩ := tick_eq s
  have queued := mem_tick empty
  have heads : ∀ h, (tick s).head h = tickHead (s.head h) := fun h => by rw [ticked]; cases h <;> rfl
  have ports : ∀ p, (tick s).port p = tickPort (s.port p) := fun p => by rw [ticked]; cases p <;> rfl
  have headDue : ∀ h d, d ∈ dueOfHead s h → d ∈ (tick s).pending := fun h d due => by
    rw [queued]
    cases h <;> simp [dueEvents, due]
  have storeDue : ∀ d, d ∈ dueOfStore s → d ∈ (tick s).pending := fun d due => by
    rw [queued]; simp [dueEvents, due]
  have conversions : conversionDue s = true ↔ 399 ≤ s.conversionTime := by
    rw [conversionDue, decide_eq_true_iff, Config.conversionUs]; omega
  refine ⟨_, stepped, by rw [ticked]; rfl, ?_, ?_, by rw [ticked]; rfl, fun due => ?_, fun ch raw member => ?_,
    fun h => by rw [heads, tickHead_eq], fun p => (ports p).trans (tickPort_eq _), fun due => ?_,
    fun h one => headDue h _ ?_, fun h one => headDue h _ ?_, fun h one => headDue h _ ?_, fun p due => ?_, fun p => ?_,
    fun held => storeDue _ ?_, fun p held => storeDue _ ?_, ?_⟩
  · have window : (tick s).windowTime = if windowEnds s then 0 else s.windowTime + 1 := by rw [ticked]; rfl
    rw [window, windowEnds, Config.windowUs]
    by_cases more : s.windowTime + 1 < 10000
    · simp [more, show ¬ 10000 ≤ s.windowTime + 1 by omega]
    · simp [more, show 10000 ≤ s.windowTime + 1 by omega]
  · have time : (tick s).conversionTime = if conversionDue s then 0 else s.conversionTime + 1 := by rw [ticked]; rfl
    rw [time]
    by_cases due : 399 ≤ s.conversionTime
    · rw [if_pos (conversions.2 due), if_neg (by omega)]
    · rw [if_neg (by rwa [conversions]), if_pos (by omega)]
  · exact ⟨_, (queued _).2 ((conversion_mem_dueEvents _ _ _).2 ⟨conversions.2 due, rfl, rfl⟩)⟩
  · obtain ⟨due, same, -⟩ := (conversion_mem_dueEvents _ _ _).1 ((queued _).1 member)
    exact ⟨conversions.1 due, same⟩
  · have ends : windowEnds s = true := by
      rw [windowEnds, decide_eq_true_iff, Config.windowUs]; omega
    rw [queued]; simp [dueEvents, mem_dueIf, ends]
  · simp [dueOfHead, mem_dueIf, fallsDue, one]
  · simp [dueOfHead, mem_dueIf, fallsDue, one]
  · simp [dueOfHead, mem_dueIf, fallsDue, one]
  · rw [queued]
    cases p <;> simp [dueEvents, mem_dueIf, due]
  · unfold linkDue
    cases (s.port p).link with
    | down => rfl
    | up n => dsimp only; rw [Bool.decide_and]; rfl
  · simp [dueOfStore, held]
  · simp [dueOfStore, held]
  · rw [ticked]
    exact ⟨rfl, rfl, rfl, rfl, rfl, rfl, rfl, rfl, rfl, rfl⟩

end Sys2Proof.Machine

/-! SUPPORT. What a flush, a segment break and a change of quality leave. -/

namespace Sys2Proof.Machine

/-! ## Flushes -/

theorem closedSlice_congr {s t : State} (env : t.env = s.env) (setup : t.setup = s.setup) (time : t.timebase = s.timebase)
    (kind : CloseKind) (x : OpenSlice) : closedSlice kind t x = closedSlice kind s x := by
  simp only [closedSlice, env, setup, time]

/-- A close leaves the Envelope Tables, the setup and the time that a close reads. -/
theorem closedSlice_closeRearmost (kind kind' : CloseKind) (s : State) (x : OpenSlice) :
    closedSlice kind (closeRearmost kind' s) x = closedSlice kind s x := by
  have same := closeRearmost_same kind' s
  exact closedSlice_congr same.env same.setup same.timebase kind x

/-- As many closes as ys has slices append them all, rearmost first, and leave the rest open (R93, R95). -/
theorem closeMany_slb (kind : CloseKind) {ys zs : List OpenSlice} {s : State} (opened : s.slb.openSlices = ys ++ zs) :
    (closeMany kind ys.length s).slb =
      { s.slb with
        openSlices := zs, pendingSlices := s.slb.pendingSlices ++ ys.map (closedSlice kind s),
        lastClosed := (ys.getLast?.map fun x => x.header.index) <|> s.slb.lastClosed } := by
  induction ys generalizing s with
  | nil =>
    have stands : s.slb = { s.slb with openSlices := zs } := by rw [← List.nil_append zs, ← opened]
    rw [List.length_nil, closeMany]
    simpa using stands
  | cons x rest ih =>
    have slb := closeRearmost_slb (kind := kind) opened
    have closes : closedSlice kind (closeRearmost kind s) = closedSlice kind s := funext (closedSlice_closeRearmost kind kind s)
    rw [List.length_cons, closeMany, ih (by rw [slb]; rfl), slb, closes]
    cases rest with
    | nil => simp
    | cons y ys => simp [List.getLast?_cons]

theorem flush_slb (s : State) :
    (flush s).slb =
      { s.slb with
        openSlices := [], pendingSlices := s.slb.pendingSlices ++ s.slb.openSlices.map (closedSlice .flush s),
        lastClosed := (s.slb.openSlices.getLast?.map fun x => x.header.index) <|> s.slb.lastClosed } :=
  closeMany_slb .flush (zs := []) (List.append_nil _).symm

/-! ## The close test -/

/-- What passes a slice stands in the heads, the position and the setup. -/
theorem passedByAll_same {s t : State} (same : SameButSlices t s) (x : OpenSlice) : passedByAll t x = passedByAll s x := by
  have heads : ∀ h, headLocked t h = headLocked s h := fun h => by simp only [headLocked, same.head h]
  have places : ∀ d h, headPosition t d h = headPosition s d h := fun d h => by
    simp only [headPosition, headChainage_eq, same.head h, same.chu, same.setup]
  simp only [passedByAll, heads, places, same.setup]

/-- The close test closes the slices at the rear that every LOCKED head has passed (R92). -/
theorem closeTestFrom_eq {n : Nat} {s : State} (enough : s.slb.openSlices.length ≤ n) :
    closeTestFrom n s = closeMany .passage (s.slb.openSlices.takeWhile (passedByAll s)).length s := by
  induction n generalizing s with
  | zero =>
    have none : s.slb.openSlices = [] := List.length_eq_zero_iff.1 (Nat.le_zero.1 enough)
    rw [none]; rfl
  | succ n ih =>
    unfold closeTestFrom
    cases opened : s.slb.openSlices with
    | nil => rfl
    | cons x rest =>
      by_cases passed : passedByAll s x = true
      · have slb := closeRearmost_slb (kind := .passage) opened
        have left : (closeRearmost .passage s).slb.openSlices = rest := by rw [slb]
        have same : passedByAll (closeRearmost .passage s) = passedByAll s :=
          funext (passedByAll_same (closeRearmost_same .passage s))
        have short : rest.length ≤ n := by rw [opened, List.length_cons] at enough; omega
        simp only [if_pos passed]
        rw [ih (by rw [left]; exact short), left, same, List.takeWhile_cons_of_pos passed]
        rfl
      · simp only [if_neg passed]
        rw [List.takeWhile_cons_of_neg passed]
        rfl

theorem closeTest_slb (s : State) :
    (closeTest s).slb =
      { s.slb with
        openSlices := s.slb.openSlices.dropWhile (passedByAll s),
        pendingSlices := s.slb.pendingSlices ++ (s.slb.openSlices.takeWhile (passedByAll s)).map (closedSlice .passage s),
        lastClosed := ((s.slb.openSlices.takeWhile (passedByAll s)).getLast?.map fun x => x.header.index) <|> s.slb.lastClosed,
        lastTest := if s.slb.openSlices = [] then s.slb.lastTest else some s.timebase } := by
  by_cases none : s.slb.openSlices = []
  · rw [closeTest_of_no_open none, if_pos none]
    have stands : s.slb = { s.slb with openSlices := [] } := by rw [← none]
    simpa [none] using stands
  · have slb := closeMany_slb .passage (s := s) (List.takeWhile_append_dropWhile (p := passedByAll s)).symm
    have time : (closeTestFrom s.slb.openSlices.length s).timebase = s.timebase :=
      (sameButSlices (closeTestFrom_slices _ s)).timebase
    rw [closeTest_of_open none, if_neg none, noteTest, time, closeTestFrom_eq le_rfl, slb]

/-! ## Changes of run state -/

theorem setRun_keepsEvents (r : RunState) (s : State) : keepsEvents s (setRun r s) := by
  unfold setRun
  split
  · exact fun _ _ => id
  · have queued : keepsEvents s { s with slb := { s.slb with run := r } } := keepsEvents_of_ports fun p => by cases p <;> rfl
    exact (queued.trans (raiseAll_keepsEvents .runState _)).trans (evaluateAdvice_keepsEvents _)

/-- A change of run state raises RUN_STATE (R98). -/
theorem setRun_raises {r : RunState} {s : State} (changes : s.slb.run ≠ r) (p : PortId) :
    outstanding .runState ((setRun r s).port p) = true := by
  unfold setRun
  rw [if_neg changes]
  exact evaluateAdvice_keeps _ _ _ (raiseAll_outstanding _ _ _)

/-- The run state at the end of a run: DRAINING, or IDLE with an empty queue (R75, R80). -/
def endState (b : SliceBuilder) : RunState := if b.openSlices = [] ∧ b.pendingSlices = [] then .idle else .draining

theorem endRun_eq (s : State) : endRun s = setRun (endState s.slb) s := by
  simp only [endRun, endState, queueEmpty, Bool.and_eq_true, List.isEmpty_iff]

theorem endState_ne_running (b : SliceBuilder) : endState b ≠ .running := by
  unfold endState; split <;> simp

theorem endRun_slb (s : State) : (endRun s).slb = { s.slb with run := endState s.slb } := by rw [endRun_eq, setRun_slb]

/-- The end of a run in RUNNING raises RUN_STATE (R98). -/
theorem endRun_raises {s : State} (running : s.slb.run = .running) (p : PortId) :
    outstanding .runState ((endRun s).port p) = true := by
  rw [endRun_eq]
  exact setRun_raises (by rw [running]; exact (endState_ne_running _).symm) p

/-- After a flush the queue is empty where it was empty before. -/
theorem endState_flushed {b c : SliceBuilder} {xs : List PendingSlice} (opened : c.openSlices = [])
    (pending : c.pendingSlices = b.pendingSlices ++ xs) (count : xs = [] ↔ b.openSlices = []) : endState c = endState b := by
  simp only [endState, opened, pending, List.append_eq_nil_iff, true_and, count]
  exact if_congr and_comm rfl rfl

/-! ## Segment breaks -/

theorem markStale_headsMark (s : State) :
    (markStale s).slb = { s.slb with
      stale1 := s.slb.stale1 || s.head1.openRev.isSome, stale2 := s.slb.stale2 || s.head2.openRev.isSome,
      staleTime1 := markMoment s.slb.stale1 s.head1.openRev.isSome s.slb.staleTime1 s.timebase,
      staleTime2 := markMoment s.slb.stale2 s.head2.openRev.isSome s.slb.staleTime2 s.timebase } := rfl

/-- The Slice Builder after a segment break in RUNNING (R79, R80). -/
theorem segmentBreak_slb {s : State} (running : s.slb.run = .running) :
    (segmentBreak s).slb = { s.slb with
      openSlices := [], pendingSlices := s.slb.pendingSlices ++ s.slb.openSlices.map (closedSlice .flush s),
      segment := if s.slb.segment = 65535 then s.slb.segment else s.slb.segment + 1, lastOpened := none, lastClosed := none,
      carriedSkipped := 0, direction := s.chu.direction,
      stale1 := s.slb.stale1 || s.head1.openRev.isSome, stale2 := s.slb.stale2 || s.head2.openRev.isSome,
      staleTime1 := markMoment s.slb.stale1 s.head1.openRev.isSome s.slb.staleTime1 s.timebase,
      staleTime2 := markMoment s.slb.stale2 s.head2.openRev.isSome s.slb.staleTime2 s.timebase,
      run := if s.slb.segment = 65535 then endState s.slb else .running } := by
  have same := flush_same s
  have started : (startSegment (flush s)).slb = { s.slb with
      openSlices := [], pendingSlices := s.slb.pendingSlices ++ s.slb.openSlices.map (closedSlice .flush s),
      segment := if s.slb.segment = 65535 then s.slb.segment else s.slb.segment + 1, lastOpened := none, lastClosed := none,
      carriedSkipped := 0, direction := s.chu.direction,
      stale1 := s.slb.stale1 || s.head1.openRev.isSome, stale2 := s.slb.stale2 || s.head2.openRev.isSome,
      staleTime1 := markMoment s.slb.stale1 s.head1.openRev.isSome s.slb.staleTime1 s.timebase,
      staleTime2 := markMoment s.slb.stale2 s.head2.openRev.isSome s.slb.staleTime2 s.timebase } := by
    simp only [startSegment, markStale, flush_slb, same.head1, same.head2, same.timebase, same.chu]
  have segment : (flush s).slb.segment = s.slb.segment := by rw [flush_slb]
  rw [segmentBreak_of_running running, segment]
  by_cases last : s.slb.segment = 65535
  · rw [if_pos last, endRun_slb, raiseAll_slb, started, endState_flushed (b := s.slb) rfl rfl (by simp)]
    simp only [if_pos last]
  · rw [if_neg last, raiseAll_slb, started]
    simp only [if_neg last, running]

theorem startSegment_keepsEvents (s : State) : keepsEvents s (startSegment s) := keepsEvents_of_ports fun p => by cases p <;> rfl

theorem endRun_keepsEvents (s : State) : keepsEvents s (endRun s) := setRun_keepsEvents _ s

theorem segmentBreak_keepsEvents (s : State) : keepsEvents s (segmentBreak s) := by
  by_cases running : s.slb.run = .running
  · rw [segmentBreak_of_running running]
    have broken := ((flush_keepsEvents s).trans (startSegment_keepsEvents _)).trans (raiseAll_keepsEvents .segmentBreak _)
    split
    · exact broken.trans (endRun_keepsEvents _)
    · exact broken
  · rw [segmentBreak_of_not_running running]; exact fun _ _ => id

/-- A break raises SEGMENT_BREAK, and RUN_STATE in the last segment (R79, R80). -/
theorem segmentBreak_raises {s : State} (running : s.slb.run = .running) :
    (∀ p, outstanding .segmentBreak ((segmentBreak s).port p) = true) ∧
      (s.slb.segment = 65535 → ∀ p, outstanding .runState ((segmentBreak s).port p) = true) := by
  have segment : (flush s).slb.segment = s.slb.segment := by rw [flush_slb]
  rw [segmentBreak_of_running running, segment]
  refine ⟨fun p => ?_, fun last p => ?_⟩
  · split
    · exact endRun_keepsEvents _ _ _ (raiseAll_outstanding _ _ _)
    · exact raiseAll_outstanding _ _ _
  · rw [if_pos last]
    refine endRun_raises ?_ p
    rw [raiseAll_slb]
    change (flush s).slb.run = _
    rw [flush_run, running]

/-! ## Changes of quality -/

theorem changeQuality_same_quality {q : Quality} {s : State} (same : s.chu.quality = q) : changeQuality q s = s := if_pos same

/-- A change of quality up to the segment break of a change to LOST. -/
def toldQuality (q : Quality) (s : State) : State :=
  evaluateAdvice (nextAtQuality q s.chu.quality (noteQuality q s))

theorem changeQuality_of_ne {q : Quality} {s : State} (changes : s.chu.quality ≠ q) :
    changeQuality q s = if q = .lost then segmentBreak (toldQuality q s) else toldQuality q s := if_neg changes

/-- The open slices with the lower of their lowest quality and q (R90). -/
def loweredTo (q : Quality) (xs : List OpenSlice) : List OpenSlice :=
  xs.map fun x => { x with header := { x.header with lowest := lowerQuality x.header.lowest q } }

theorem toldQuality_fields (q : Quality) (s : State) :
    (toldQuality q s).chu = { s.chu with quality := q } ∧
      (toldQuality q s).slb = { s.slb with openSlices := loweredTo q s.slb.openSlices } ∧
      (toldQuality q s).pst = s.pst ∧
      (∃ n, (toldQuality q s).mku = { s.mku with nextExpected := n }) ∧
      slicesMask (toldQuality q s) = slicesMask { s with
        chu := { s.chu with quality := q }, mku := (toldQuality q s).mku } ∧
      (∀ p, outstanding .qualityChange ((toldQuality q s).port p) = true) ∧ keepsEvents s (toldQuality q s) := by
  obtain ⟨n, same⟩ := nextAtQuality_eq q s.chu.quality (noteQuality q s)
  have noted : keepsEvents s (noteQuality q s) := by
    have quality : keepsEvents s { s with chu := { s.chu with quality := q } } := keepsEvents_of_ports fun p => by cases p <;> rfl
    exact (quality.trans (raiseAll_keepsEvents .qualityChange _)).trans (keepsEvents_of_ports fun p => by cases p <;> rfl)
  have raised : ∀ p, outstanding .qualityChange ((setNext n (noteQuality q s)).port p) = true := fun p => by
    have here := raiseAll_outstanding .qualityChange ({ s with chu := { s.chu with quality := q } } : State) p
    cases p <;> exact here
  rw [toldQuality, same]
  refine ⟨by rw [evaluateAdvice_chu]; rfl, by rw [evaluateAdvice_slb]; rfl, by rw [evaluateAdvice_pst]; rfl,
    ⟨n, by rw [evaluateAdvice_mku]; rfl⟩, ?_, fun p => evaluateAdvice_keeps _ _ _ (raised p), ?_⟩
  · rw [evaluateAdvice_mku, evaluateAdvice_slices]; rfl
  · exact (noted.trans (keepsEvents_of_ports fun p => by cases p <;> rfl)).trans (evaluateAdvice_keepsEvents _)

@[simp] theorem segmentBreak_chu (s : State) : (segmentBreak s).chu = s.chu := (segmentBreak_same s).chu
@[simp] theorem segmentBreak_mku (s : State) : (segmentBreak s).mku = s.mku := (segmentBreak_same s).mku

@[simp] theorem changeQuality_chu (q : Quality) (s : State) : (changeQuality q s).chu = { s.chu with quality := q } := by
  by_cases same : s.chu.quality = q
  · rw [changeQuality_same_quality same, ← same]
  · obtain ⟨chu, -⟩ := toldQuality_fields q s
    rw [changeQuality_of_ne same]
    split <;> simp [chu]

theorem changeQuality_keepsEvents (q : Quality) (s : State) : keepsEvents s (changeQuality q s) := by
  by_cases same : s.chu.quality = q
  · rw [changeQuality_same_quality same]; exact fun _ _ => id
  · obtain ⟨-, -, -, -, -, -, told⟩ := toldQuality_fields q s
    rw [changeQuality_of_ne same]
    split
    · exact told.trans (segmentBreak_keepsEvents _)
    · exact told

/-- A change of quality raises QUALITY_CHANGE (R49). -/
theorem changeQuality_raises {q : Quality} {s : State} (changes : s.chu.quality ≠ q) (p : PortId) :
    outstanding .qualityChange ((changeQuality q s).port p) = true := by
  obtain ⟨-, -, -, -, -, raised, -⟩ := toldQuality_fields q s
  rw [changeQuality_of_ne changes]
  split
  · exact segmentBreak_keepsEvents _ _ _ (raised p)
  · exact raised p

/-- A change of quality other than to LOST tells the open slices (R90). -/
theorem changeQuality_slb {q : Quality} {s : State} (found : q ≠ .lost) :
    (changeQuality q s).slb =
      if s.chu.quality = q then s.slb else { s.slb with openSlices := loweredTo q s.slb.openSlices } := by
  by_cases same : s.chu.quality = q
  · rw [changeQuality_same_quality same, if_pos same]
  · obtain ⟨-, slb, -⟩ := toldQuality_fields q s
    rw [changeQuality_of_ne same, if_neg found, if_neg same, slb]

/-- What a change of quality leaves outside the position, the slices, the store and the advice. -/
theorem changeQuality_frame (q : Quality) (s : State) :
    (changeQuality q s).head1 = s.head1 ∧ (changeQuality q s).head2 = s.head2 ∧ (changeQuality q s).scv = s.scv ∧
      (changeQuality q s).env = s.env ∧ (changeQuality q s).locks = s.locks ∧ (changeQuality q s).signals = s.signals ∧
      (changeQuality q s).setup = s.setup ∧ (changeQuality q s).timebase = s.timebase := by
  have masked := changeQuality_position q s
  exact ⟨(congrArg State.head1 masked :), (congrArg State.head2 masked :), (congrArg State.scv masked :),
    (congrArg State.env masked :), (congrArg State.locks masked :), (congrArg State.signals masked :),
    (congrArg State.setup masked :), (congrArg State.timebase masked :)⟩

/-- R50: from SURVEYED and DEAD_RECKONED the quality falls to DEGRADED. -/
def degradedFrom (q : Quality) : Quality := if q = .surveyed ∨ q = .deadReckoned then .degraded else q

theorem degrade_eq (s : State) : degrade s = changeQuality (degradedFrom s.chu.quality) s := by
  unfold degrade degradedFrom
  cases quality : s.chu.quality with
  | surveyed => simp
  | deadReckoned => simp
  | degraded => simp [changeQuality_same_quality quality]
  | lost => simp [changeQuality_same_quality quality]

end Sys2Proof.Machine

/-! PROOF. Encoder transitions, SET CHAINAGE and marker edges: O18, O20, O21 and O22. -/

namespace Sys2Proof.Machine

/-! ## Encoder transitions (O18) -/

@[simp] theorem setEncoder_encoder_self (c : ChainageUnit) (side : Side) (e : Encoder) : (c.setEncoder side e).encoder side = e := by
  cases side <;> rfl

@[simp] theorem setEncoder_encoder_other (c : ChainageUnit) (side : Side) (e : Encoder) :
    (c.setEncoder side e).encoder (otherSide side) = c.encoder (otherSide side) := by
  cases side <;> rfl

theorem countOf_same (x : Phase) : countOf x x = .none := if_pos rfl

/-- Table 3-2, for each of the four pairs. -/
theorem countOf_cases (a b : Bool) :
    countOf ⟨a, b⟩ ⟨b, !a⟩ = .plus ∧ countOf ⟨a, b⟩ ⟨!b, a⟩ = .minus ∧ countOf ⟨a, b⟩ ⟨!a, !b⟩ = .illegal := by
  cases a <;> cases b <;> decide

theorem takeTransition_plus {side : Side} {new : Phase} {s : State} (counts : countOf (s.chu.encoder side).phase new = .plus) :
    takeTransition side new s = { s with
      chu := s.chu.setEncoder side { s.chu.encoder side with phase := new, delta := (s.chu.encoder side).delta + 1 } } := by
  unfold takeTransition; simp only [counts]

theorem takeTransition_minus {side : Side} {new : Phase} {s : State} (counts : countOf (s.chu.encoder side).phase new = .minus) :
    takeTransition side new s = { s with
      chu := s.chu.setEncoder side { s.chu.encoder side with phase := new, delta := (s.chu.encoder side).delta - 1 } } := by
  unfold takeTransition; simp only [counts]

theorem takeTransition_none {side : Side} {new : Phase} {s : State} (counts : countOf (s.chu.encoder side).phase new = .none) :
    takeTransition side new s = s := by
  unfold takeTransition; simp only [counts]

theorem takeTransition_illegal {side : Side} {new : Phase} {s : State} (counts : countOf (s.chu.encoder side).phase new = .illegal) :
    let e := s.chu.encoder side
    let t : State := { s with chu := s.chu.setEncoder side { e with phase := new, illegal := addSat 8 e.illegal 1 } }
    takeTransition side new s = if e.health = .healthy ∧ 8 ≤ e.illegal + 1 then failEncoder side t else t := by
  unfold takeTransition; simp only [counts]

theorem isFailed_iff (e : Encoder) : isFailed e = true ↔ e.health = .failed := decide_eq_true_iff

/-- The state of a newly FAILED encoder before the quality changes: with the other encoder HEALTHY slip ends (R44). -/
def encoderLost (side : Side) (s : State) : State :=
  let t := { s with chu := s.chu.setEncoder side { s.chu.encoder side with health := .failed } }
  if isFailed (s.chu.encoder (otherSide side)) then t
  else if t.chu.slip then clearSlip { t with chu := { t.chu with slip := false } } else t

/-- The quality that the failure of an encoder leaves (R50, R51). -/
def qualityAfterFailure (side : Side) (s : State) : Quality :=
  if isFailed (s.chu.encoder (otherSide side)) then .lost else degradedFrom s.chu.quality

theorem encoderLost_quality (side : Side) (s : State) : (encoderLost side s).chu.quality = s.chu.quality := by
  unfold encoderLost
  cases side <;> (dsimp only; split_ifs <;> rfl)

theorem failEncoder_eq (side : Side) (s : State) :
    failEncoder side s = changeQuality (qualityAfterFailure side s) (encoderLost side s) := by
  have quality := encoderLost_quality side s
  unfold failEncoder qualityAfterFailure
  unfold encoderLost at quality ⊢
  cases other : isFailed (s.chu.encoder (otherSide side)) with
  | true => simp only [if_true]
  | false =>
    simp only [other, Bool.false_eq_true, if_false] at quality ⊢
    rw [degrade_eq, quality]

theorem encoderLost_fields (side : Side) (s : State) :
    let e := { s.chu.encoder side with health := Health.failed }
    (encoderLost side s).chu.encoder side = e ∧
      (encoderLost side s).chu.encoder (otherSide side) = s.chu.encoder (otherSide side) ∧
      (encoderLost side s).chu.chainage = s.chu.chainage ∧ (encoderLost side s).chu.remainder = s.chu.remainder ∧
      (encoderLost side s).chu.direction = s.chu.direction ∧
      ((s.chu.encoder (otherSide side)).health = .healthy → (encoderLost side s).chu.slip = false ∧
        (s.chu.slip = true → (encoderLost side s).chu.slipTravel = 0 ∧ (encoderLost side s).chu.slipLeft = 0 ∧
          (encoderLost side s).chu.slipRight = 0)) ∧
      encoderLost side s = { s with chu := (encoderLost side s).chu } := by
  unfold encoderLost
  cases side <;> (dsimp only; split_ifs <;> simp_all [isFailed_iff, ChainageUnit.encoder, ChainageUnit.setEncoder, otherSide, clearSlip])

/-- What the failure of an encoder leaves (R38, R44, R50, R51). -/
theorem failEncoder_fields (side : Side) (s : State) :
    let t := failEncoder side s
    t.chu = { (encoderLost side s).chu with quality := qualityAfterFailure side s } ∧
      (t.chu.quality ≠ s.chu.quality → ∀ p, outstanding .qualityChange (t.port p) = true) ∧
      t.head1 = s.head1 ∧ t.head2 = s.head2 ∧ t.scv = s.scv ∧ t.env = s.env ∧ t.locks = s.locks ∧ t.setup = s.setup := by
  obtain ⟨-, -, -, -, -, -, only⟩ := encoderLost_fields side s
  obtain ⟨head1, head2, scv, env, locks, -, setup, -⟩ := changeQuality_frame (qualityAfterFailure side s) (encoderLost side s)
  have chu := changeQuality_chu (qualityAfterFailure side s) (encoderLost side s)
  intro t
  have failed : t = changeQuality (qualityAfterFailure side s) (encoderLost side s) := failEncoder_eq side s
  rw [failed]
  refine ⟨chu, fun changes p => changeQuality_raises ?_ p, head1.trans ?_, head2.trans ?_, scv.trans ?_, env.trans ?_,
    locks.trans ?_, setup.trans ?_⟩
  · rw [chu] at changes
    rw [encoderLost_quality]
    exact fun same => changes same.symm
  all_goals rw [only]

/-- Settles O18: Table 3-2 pair by pair, and the eighth illegal transition as the change of quality that the failure makes. -/
theorem encoderTransitionFollowsTheTable : Obligations.EncoderTransitionFollowsTheTable := by
  intro side new s e other changed
  obtain ⟨plus, minus, both⟩ := countOf_cases e.phase.a e.phase.b
  have taken : exec (.encoderTransition side new) s = .next (takeTransition side new s) := rfl
  refine ⟨fun same => ?_, fun next => ?_, fun last => ?_, fun illegal short => ?_, fun illegal eighth healthy => ?_⟩
  · exact taken.trans (congrArg _ (takeTransition_none (same ▸ countOf_same _)))
  · exact taken.trans (congrArg _ (takeTransition_plus (next ▸ plus)))
  · exact taken.trans (congrArg _ (takeTransition_minus (last ▸ minus)))
  · refine taken.trans (congrArg _ ((takeTransition_illegal (illegal ▸ both)).trans (if_neg ?_)))
    rintro ⟨healthy, many⟩
    rcases short with few | failed
    · exact absurd many (by change ¬ 8 ≤ e.illegal + 1; omega)
    · exact absurd (healthy.symm.trans failed) (by decide)
  · have fails := (takeTransition_illegal (illegal ▸ both)).trans (if_pos ⟨healthy, eighth⟩)
    refine ⟨_, taken.trans (congrArg _ fails), ?_⟩
    let t : State := { s with chu := s.chu.setEncoder side { e with phase := new, illegal := addSat 8 e.illegal 1 } }
    have count : addSat 8 e.illegal 1 = 8 := Nat.min_eq_left eighth
    have self : t.chu.encoder side = { e with phase := new, illegal := 8 } := by rw [← count]; exact setEncoder_encoder_self _ _ _
    have stands : t.chu.encoder (otherSide side) = other := setEncoder_encoder_other _ _ _
    have quality : t.chu.quality = s.chu.quality ∧ t.chu.slip = s.chu.slip ∧ t.chu.chainage = s.chu.chainage ∧
      t.chu.remainder = s.chu.remainder ∧ t.chu.direction = s.chu.direction := by cases side <;> exact ⟨rfl, rfl, rfl, rfl, rfl⟩
    obtain ⟨quality, slip, chainage, remainder, direction⟩ := quality
    obtain ⟨lost, unchanged, chainage', remainder', direction', slipEnds, -⟩ := encoderLost_fields side t
    obtain ⟨chu, raises, frame⟩ := failEncoder_fields side t
    have judged : qualityAfterFailure side t = if isFailed other then .lost else degradedFrom s.chu.quality := by
      rw [qualityAfterFailure, stands, quality]
    refine ⟨?_, ?_, ?_, ?_, ?_, fun healthy => ?_, fun failed => ?_, by rwa [quality] at raises, frame⟩
    · rw [chu]; exact lost.trans (by rw [self])
    · rw [chu]; exact unchanged.trans stands
    · rw [chu]; exact chainage'.trans chainage
    · rw [chu]; exact remainder'.trans remainder
    · rw [chu]; exact direction'.trans direction
    · obtain ⟨ended, cleared⟩ := slipEnds (by rw [stands]; exact healthy)
      rw [slip] at cleared
      rw [chu]
      refine ⟨ended, cleared, ?_⟩
      rw [judged, isFailed, healthy]; rfl
    · rw [chu]
      exact judged.trans (if_pos ((isFailed_iff other).2 failed))

/-! ## SET CHAINAGE (O20) -/

theorem recomputeNext_of_undetermined {s : State} (undetermined : s.chu.direction = none) : recomputeNext s = setNext none s := by
  unfold recomputeNext
  rw [undetermined]
  cases matchingState s <;> cases s.chu.quality <;> rfl

theorem changeQuality_mku (q : Quality) (s : State) : ∃ n, (changeQuality q s).mku = { s.mku with nextExpected := n } := by
  by_cases same : s.chu.quality = q
  · rw [changeQuality_same_quality same]; exact ⟨s.mku.nextExpected, rfl⟩
  · obtain ⟨-, -, -, ⟨n, mku⟩, -⟩ := toldQuality_fields q s
    rw [changeQuality_of_ne same]
    split
    · exact ⟨n, by rw [segmentBreak_mku, mku]⟩
    · exact ⟨n, mku⟩

theorem loweredTo_eq_nil (q : Quality) (xs : List OpenSlice) : loweredTo q xs = [] ↔ xs = [] := List.map_eq_nil_iff

/-- What SET CHAINAGE leaves of the position (R53). -/
theorem setChainageTo_position_fields (mm : Nat) (s : State) :
    (setChainageTo mm s).chu = { (placeChainage mm s).chu with quality := .deadReckoned } ∧
      (setChainageTo mm s).mku = { s.mku with missCount := 0, nextExpected := none } := by
  have placed : (changeQuality .deadReckoned (placeChainage mm s)).chu = _ := changeQuality_chu .deadReckoned (placeChainage mm s)
  have next := recomputeNext_of_undetermined (s := changeQuality .deadReckoned (placeChainage mm s)) (by rw [placed]; rfl)
  obtain ⟨n, mku⟩ := changeQuality_mku .deadReckoned (placeChainage mm s)
  rw [setChainageTo, segmentBreak_chu, segmentBreak_mku, next]
  refine ⟨placed, ?_⟩
  change ({ (changeQuality .deadReckoned (placeChainage mm s)).mku with nextExpected := none } : MarkerUnit) = _
  rw [mku]
  rfl

/-- A segment break as the statements give it, in terms of a Slice Builder b that the state before the break still has up to what its
open slices hold (R79, R80). -/
theorem segmentBreak_summary {b : SliceBuilder} {u : State} (running : u.slb.run = .running) (segment : u.slb.segment = b.segment)
    (opened : u.slb.openSlices = [] ↔ b.openSlices = []) (pending : u.slb.pendingSlices = b.pendingSlices) :
    let t := segmentBreak u
    t.slb.openSlices = [] ∧ t.slb.segment = (if b.segment = 65535 then b.segment else b.segment + 1) ∧
      t.slb.run = (if b.segment ≠ 65535 then .running else
        if b.openSlices = [] ∧ b.pendingSlices = [] then .idle else .draining) ∧
      (b.segment = 65535 → ∀ p, outstanding .runState (t.port p) = true) ∧ t.slb.direction = u.chu.direction ∧
      ∀ p, outstanding .segmentBreak (t.port p) = true := by
  have slb := segmentBreak_slb running
  obtain ⟨broken, ended⟩ := segmentBreak_raises running
  have state : endState u.slb = if b.openSlices = [] ∧ b.pendingSlices = [] then .idle else .draining := by
    simp only [endState, opened, pending]
  rw [segment] at slb ended
  intro t
  refine ⟨by rw [slb], by rw [slb], ?_, ended, by rw [slb], broken⟩
  rw [slb, state]
  exact (ite_not _ _ _).symm

/-- SET CHAINAGE is a segment break of the position told at DEAD_RECKONED (R53, R79). -/
theorem setChainageTo_eq (mm : Nat) (s : State) :
    setChainageTo mm s = segmentBreak (setNext none (changeQuality .deadReckoned (placeChainage mm s))) := by
  rw [setChainageTo, recomputeNext_of_undetermined (by rw [changeQuality_chu]; rfl)]

theorem setNext_keepsEvents (n : Option Nat) (s : State) : keepsEvents s (setNext n s) :=
  keepsEvents_of_ports fun p => by cases p <;> rfl

/-- What SET CHAINAGE does to the slices and raises (R53, R79, R80). -/
theorem setChainageTo_slices_fields (mm : Nat) (s : State) :
    let t := setChainageTo mm s
    (s.chu.quality ≠ .deadReckoned → ∀ q, outstanding .qualityChange (t.port q) = true) ∧
      (s.slb.run = .running →
        t.slb.openSlices = [] ∧ t.slb.segment = (if s.slb.segment = 65535 then s.slb.segment else s.slb.segment + 1) ∧
        t.slb.run = (if s.slb.segment ≠ 65535 then .running else
          if s.slb.openSlices = [] ∧ s.slb.pendingSlices = [] then .idle else .draining) ∧
        (s.slb.segment = 65535 → ∀ q, outstanding .runState (t.port q) = true) ∧ t.slb.direction = none ∧
        ∀ q, outstanding .segmentBreak (t.port q) = true) ∧
      (s.slb.run ≠ .running →
        t.slb = if s.chu.quality = .deadReckoned then s.slb
          else { s.slb with openSlices := loweredTo .deadReckoned s.slb.openSlices }) := by
  intro t
  have broken : t = segmentBreak _ := setChainageTo_eq mm s
  have slb : (setNext none (changeQuality .deadReckoned (placeChainage mm s))).slb = _ :=
    changeQuality_slb (s := placeChainage mm s) (q := .deadReckoned) (by decide)
  have fields : ∀ {α : Type} (f : SliceBuilder → α) (_ : ∀ xs, f { s.slb with openSlices := xs } = f s.slb),
      f (setNext none (changeQuality .deadReckoned (placeChainage mm s))).slb = f s.slb := fun f same => by
    rw [slb]
    split
    · rfl
    · exact same _
  rw [broken]
  refine ⟨fun changes q => ?_, fun running => ?_, fun idle => ?_⟩
  · exact segmentBreak_keepsEvents _ _ _ (setNext_keepsEvents _ _ _ _ (changeQuality_raises (s := placeChainage mm s) changes q))
  · have summary := segmentBreak_summary (b := s.slb)
      ((fields SliceBuilder.run fun _ => rfl).trans running) (fields SliceBuilder.segment fun _ => rfl)
      (by rw [slb]; split
          · rfl
          · exact loweredTo_eq_nil _ _)
      (fields SliceBuilder.pendingSlices fun _ => rfl)
    have direction : (setNext none (changeQuality .deadReckoned (placeChainage mm s))).chu.direction = none :=
      congrArg ChainageUnit.direction (changeQuality_chu .deadReckoned (placeChainage mm s))
    rwa [direction] at summary
  · rw [segmentBreak_of_not_running (by rw [fields SliceBuilder.run fun _ => rfl]; exact idle), slb]
    rfl

theorem setChainageTo_frame (mm : Nat) (s : State) :
    let t := setChainageTo mm s
    t.head1 = s.head1 ∧ t.head2 = s.head2 ∧ t.scv = s.scv ∧ t.env = s.env ∧ t.locks = s.locks ∧ t.signals = s.signals ∧
      t.setup = s.setup := by
  have masked := setChainageTo_position mm s
  exact ⟨(congrArg State.head1 masked :), (congrArg State.head2 masked :), (congrArg State.scv masked :),
    (congrArg State.env masked :), (congrArg State.locks masked :), (congrArg State.signals masked :),
    (congrArg State.setup masked :)⟩

theorem setChainageRequest_eq (mm : BitVec 32) (s : State) :
    setChainageRequest mm s = (setChainageTo (min mm.toNat 999999999) s, bare (if mm.toNat ≤ 999999999 then .ok else .clamped)) := by
  unfold setChainageRequest
  rw [Config.maxMm]
  by_cases inRange : mm.toNat ≤ 999999999
  · rw [if_neg (by omega), if_pos inRange, Nat.min_eq_left inRange]
  · rw [if_pos (by omega), if_neg inRange, Nat.min_eq_right (by omega)]

/-- Settles O20: the position, the slices and the frame of SET CHAINAGE, behind its answer. -/
theorem setChainageSetsThePosition : Obligations.SetChainageSetsThePosition := by
  intro p mm s idle
  refine ⟨fun other => ?_, fun holder => ?_⟩
  · exact congrArg _ (plainRequest_unchanged idle _ (needsSetup_other (by rwa [afterFrame_locks]) _))
  · let a := afterFrame p s
    obtain ⟨chu, mku⟩ := setChainageTo_position_fields (min mm.toNat 999999999) a
    obtain ⟨quality, running, stands⟩ := setChainageTo_slices_fields (min mm.toNat 999999999) a
    obtain ⟨head1, head2, scv, env, locks, signals, setup⟩ := setChainageTo_frame (min mm.toNat 999999999) a
    have accepted : needsSetup p (setChainageRequest mm) a = _ :=
      (needsSetup_holder (by rwa [afterFrame_locks]) _).trans (setChainageRequest_eq mm a)
    refine ⟨_, congrArg Host.Outcome.next (plainRequest_idle idle 0x13 (needsSetup p (setChainageRequest mm))), ?_⟩
    rw [accepted]
    simp only [withAnswer, setSlot_chu, setSlot_mku, setSlot_slb, setSlot_head1, setSlot_head2, setSlot_scv,
      setSlot_env, setSlot_locks, setSlot_signals, setSlot_setup, outstanding, setSlot_latch]
    have slb : a.slb = s.slb := afterFrame_slb p s
    have position : a.chu = s.chu := afterFrame_chu p s
    rw [slb, position] at stands
    rw [slb] at running
    rw [position] at quality
    refine ⟨withAnswer_slot p _ _ _ _, chu.trans (by rw [placeChainage, position]), mku.trans (by rw [afterFrame_mku]), quality, running,
      fun idle => (stands idle).trans ?_, head1.trans (afterFrame_head p .h1 s), head2.trans (afterFrame_head p .h2 s),
      scv.trans (afterFrame_scv p s), env.trans (afterFrame_env p s), locks.trans (afterFrame_locks p s),
      signals.trans (afterFrame_signals p s), setup.trans (afterFrame_setup p s)⟩
    by_cases same : s.chu.quality = .deadReckoned
    · simp only [if_pos same, List.map_id']
    · simp only [if_neg same, loweredTo]

/-! ## Marker edges (O21, O22) -/

/-- The nearest of the known entries to chainage c, of equally near ones that of the lowest index (R64). -/
def nearestOf (c : Nat) (known : Nat → MarkerEntry → Prop) : Option (Nat × MarkerEntry) → Prop
  | none => ∀ j f, ¬ known j f
  | some (i, e) => known i e ∧ ∀ j f, known j f →
      distanceMm e.surveyed c < distanceMm f.surveyed c ∨ (distanceMm e.surveyed c = distanceMm f.surveyed c ∧ i ≤ j)

theorem nearestOf_congr {c : Nat} {known known' : Nat → MarkerEntry → Prop} {r : Option (Nat × MarkerEntry)}
    (same : ∀ j f, known j f ↔ known' j f) : nearestOf c known r ↔ nearestOf c known' r := by
  have equal : known = known' := funext fun j => funext fun f => propext (same j f)
  rw [equal]

/-- The nearest after one more entry, at index i. -/
def orNearer (c i : Nat) (e : MarkerEntry) (best : Option (Nat × MarkerEntry)) : Option (Nat × MarkerEntry) :=
  if e.enabled then
    match best with
    | none => some (i, e)
    | some (j, b) => if distanceMm e.surveyed c < distanceMm b.surveyed c then some (i, e) else some (j, b)
  else best

theorem nearestFrom_cons (c i : Nat) (e : MarkerEntry) (es : List MarkerEntry) (best : Option (Nat × MarkerEntry)) :
    nearestFrom c i (e :: es) best = nearestFrom c (i + 1) es (orNearer c i e best) := by
  cases best <;> rfl

/-- One more entry: it is the nearest now if it is enabled and nearer than the nearest before it. -/
theorem nearestOf_next {c i : Nat} {e : MarkerEntry} {known : Nat → MarkerEntry → Prop} {best : Option (Nat × MarkerEntry)}
    (nearest : nearestOf c known best) (before : ∀ j f, known j f → j < i) :
    nearestOf c (fun j f => known j f ∨ (j = i ∧ f = e ∧ e.enabled = true)) (orNearer c i e best) := by
  unfold orNearer
  by_cases enabled : e.enabled = true
  · rw [if_pos enabled]
    cases best with
    | none =>
      refine ⟨.inr ⟨rfl, rfl, enabled⟩, ?_⟩
      rintro j f (known | ⟨rfl, rfl, -⟩)
      · exact absurd known (nearest j f)
      · exact .inr ⟨rfl, le_rfl⟩
    | some best =>
      obtain ⟨b, x⟩ := best
      obtain ⟨found, least⟩ := nearest
      by_cases nearer : distanceMm e.surveyed c < distanceMm x.surveyed c
      · simp only [if_pos nearer]
        refine ⟨.inr ⟨rfl, rfl, enabled⟩, ?_⟩
        rintro j f (known | ⟨rfl, rfl, -⟩)
        · rcases least j f known with far | ⟨equal, -⟩
          · exact .inl (nearer.trans far)
          · exact .inl (equal ▸ nearer)
        · exact .inr ⟨rfl, le_rfl⟩
      · simp only [if_neg nearer]
        refine ⟨.inl found, ?_⟩
        rintro j f (known | ⟨rfl, rfl, -⟩)
        · exact least j f known
        · have lower := before b x found
          rcases Nat.lt_or_ge (distanceMm x.surveyed c) (distanceMm f.surveyed c) with far | near
          · exact .inl far
          · exact .inr ⟨by omega, by omega⟩
  · rw [if_neg enabled]
    exact (nearestOf_congr fun j f => ⟨.inl, fun h => h.resolve_right fun ⟨_, _, on⟩ => enabled on⟩).1 nearest

theorem nearestFrom_nearest {c i : Nat} {es : List MarkerEntry} {known : Nat → MarkerEntry → Prop}
    {best : Option (Nat × MarkerEntry)} (nearest : nearestOf c known best) (before : ∀ j f, known j f → j < i) :
    nearestOf c (fun j f => known j f ∨ ∃ k, es[k]? = some f ∧ f.enabled = true ∧ j = i + k) (nearestFrom c i es best) := by
  induction es generalizing i known best with
  | nil => exact (nearestOf_congr fun j f => by simp).1 nearest
  | cons e rest ih =>
    have step := ih (i := i + 1) (nearestOf_next (e := e) nearest before) (by
      rintro j f (known | ⟨rfl, -⟩)
      · exact (before j f known).trans (Nat.lt_succ_self i)
      · exact Nat.lt_succ_self j)
    rw [nearestFrom_cons]
    refine (nearestOf_congr fun j f => ?_).1 step
    constructor
    · rintro ((known | ⟨rfl, rfl, on⟩) | ⟨k, at', on, rfl⟩)
      · exact .inl known
      · exact .inr ⟨0, rfl, on, rfl⟩
      · exact .inr ⟨k + 1, at', on, by omega⟩
    · rintro (known | ⟨k, at', on, rfl⟩)
      · exact .inl (.inl known)
      · cases k with
        | zero =>
          obtain rfl : e = f := by simpa using at'
          exact .inl (.inr ⟨rfl, rfl, on⟩)
        | succ k => exact .inr ⟨k, by simpa using at', on, by omega⟩

/-- The entry the match looks at is the nearest enabled one of the table. -/
theorem nearestFrom_table (s : State) (c : Nat) :
    nearestOf c (fun j f => s.mku.table[j]? = some f ∧ f.enabled = true) (nearestFrom c 0 s.mku.table.toList none) := by
  have nearest := nearestFrom_nearest (c := c) (i := 0) (es := s.mku.table.toList) (known := fun _ _ => False) (best := none)
    (fun _ _ => id) (fun _ _ => False.elim)
  refine (nearestOf_congr fun j f => ?_).1 nearest
  simp

theorem distanceMm_eq (a b : Nat) : distanceMm a b = ((a : Int) - b).natAbs := by
  unfold distanceMm; omega

theorem matchedMarker_eq_none {s : State} {c : Nat}
    (far : ∀ (i : Nat) (e : MarkerEntry), s.mku.table[i]? = some e → e.enabled = true →
      (∀ (j : Nat) (f : MarkerEntry), s.mku.table[j]? = some f → f.enabled = true →
        distanceMm e.surveyed c < distanceMm f.surveyed c ∨ (distanceMm e.surveyed c = distanceMm f.surveyed c ∧ i ≤ j)) →
      e.window < distanceMm e.surveyed c) : matchedMarker s c = none := by
  have nearest := nearestFrom_table s c
  unfold matchedMarker
  cases found : nearestFrom c 0 s.mku.table.toList none with
  | none => rfl
  | some best =>
    obtain ⟨i, e⟩ := best
    rw [found] at nearest
    obtain ⟨⟨at', on⟩, least⟩ := nearest
    exact if_neg (Nat.not_le.2 (far i e at' on fun j f here enabled => least j f ⟨here, enabled⟩))

/-- What a match is (R64). -/
theorem of_matchedMarker {s : State} {c m : Nat} {e : MarkerEntry} (matched : matchedMarker s c = some (m, e)) :
    s.mku.table[m]? = some e ∧ e.enabled = true ∧ distanceMm e.surveyed c ≤ e.window ∧
      ∀ (j : Nat) (f : MarkerEntry), s.mku.table[j]? = some f → f.enabled = true →
        distanceMm e.surveyed c < distanceMm f.surveyed c ∨ (distanceMm e.surveyed c = distanceMm f.surveyed c ∧ m ≤ j) := by
  have nearest := nearestFrom_table s c
  unfold matchedMarker at matched
  cases found : nearestFrom c 0 s.mku.table.toList none with
  | none => simp [found] at matched
  | some best =>
    obtain ⟨i, f⟩ := best
    simp only [found, Option.ite_none_right_eq_some, Option.some.injEq, Prod.mk.injEq] at matched
    obtain ⟨inside, rfl, rfl⟩ := matched
    rw [found] at nearest
    obtain ⟨⟨at', on⟩, least⟩ := nearest
    exact ⟨at', on, inside, fun j f here enabled => least j f ⟨here, enabled⟩⟩

theorem edgeSuppressed_iff (s : State) :
    edgeSuppressed s = true ↔ ∃ t, s.mku.lastEdge = some t ∧ (s.timebase - t).toNat < 5000 := by
  unfold edgeSuppressed
  cases s.mku.lastEdge with
  | none => simp
  | some t =>
    simp only [Option.some.injEq, exists_eq_left', Config.edgeGuardUs]
    exact decide_eq_true_iff

/-- The state in which a taken edge makes its capture (R62). -/
def edgeTaken (s : State) : State := { s with mku := { s.mku with lastEdge := some s.timebase } }

theorem takeEdge_suppressed {s : State} (suppressed : edgeSuppressed s = true) :
    takeEdge s = { s with mku := { s.mku with suppressed := min 65535 (s.mku.suppressed + 1) } } := by
  rw [takeEdge, if_pos suppressed, addSat, Config.sat16]

theorem takeEdge_taken {s : State} (taken : ¬ edgeSuppressed s = true) : takeEdge s = takeCapture (edgeTaken s) := if_neg taken

theorem matchingState_edit {s : State} (held : s.locks.markers ≠ none) : matchingState s = .edit := by
  unfold matchingState tableState
  cases holder : s.locks.markers with
  | none => exact absurd holder held
  | some p => rfl

theorem matchingState_suspended {s : State} (free : s.locks.markers = none) (suspended : s.mku.suspended = true) :
    matchingState s = .suspended := by
  rw [matchingState, free, suspended]; rfl

theorem matchingState_active {s : State} (free : s.locks.markers = none) (active : s.mku.suspended = false) :
    matchingState s = .active := by
  rw [matchingState, free, active]; rfl

/-- The record of a capture at the chainage as it stands. -/
def captureOf (s : State) (m : Option Nat) (delta : Int) (r : CaptureResult) : Capture :=
  { time := s.timebase, chainageBefore := chainageMm s, marker := m, correction := delta, result := r }

theorem takeCapture_edit {s : State} (state : matchingState s = .edit) :
    takeCapture s = logCapture (captureOf s none 0 .ignoredEdit) s := by unfold takeCapture; simp only [state]; rfl

theorem takeCapture_suspended {s : State} (state : matchingState s = .suspended) :
    takeCapture s = logCapture (captureOf s none 0 .ignoredSuspended) s := by unfold takeCapture; simp only [state]; rfl

theorem takeCapture_lost {s : State} (state : matchingState s = .active) (lost : s.chu.quality = .lost) :
    takeCapture s = logCapture (captureOf s none 0 .ignoredLost) s := by
  unfold takeCapture; simp only [state, lost, if_true]; rfl

theorem takeCapture_unexpected {s : State} (state : matchingState s = .active) (found : s.chu.quality ≠ .lost)
    (unmatched : matchedMarker s (chainageMm s) = none) :
    takeCapture s = logCapture (captureOf s none 0 .unexpected) s := by
  unfold takeCapture; simp only [state, if_neg found, unmatched]; rfl

theorem takeCapture_check {s : State} {m : Nat} {e : MarkerEntry} (state : matchingState s = .active)
    (found : s.chu.quality ≠ .lost) (matched : matchedMarker s (chainageMm s) = some (m, e)) (kind : e.kind = .check) :
    takeCapture s = logCapture (captureOf s (some m) 0 .checked) (afterMatch m s) := by
  unfold takeCapture; simp only [state, if_neg found, matched, kind]; rfl

theorem takeCapture_ring {s : State} {m : Nat} {e : MarkerEntry} (state : matchingState s = .active)
    (found : s.chu.quality ≠ .lost) (matched : matchedMarker s (chainageMm s) = some (m, e)) (kind : e.kind = .ring) :
    let delta : Int := (e.surveyed : Int) - chainageMm s
    let jump : Bool := decide (s.setup.sliceLength / 2 < delta.natAbs)
    takeCapture s =
      logCapture (captureOf s (some m) delta (if jump then .appliedJump else .applied)) (applyRing m e jump s) := by
  unfold takeCapture; simp only [state, if_neg found, matched, kind]; rfl

/-- The state after an edge that is only logged, with its result (R67). -/
def loggedEdge (s : State) (r : CaptureResult) : State :=
  raiseAll .markerCapture { s with mku := { s.mku with
    lastEdge := some s.timebase,
    log := (⟨s.timebase, s.chu.chainage / 1000, none, 0, r⟩ :: s.mku.log).take 16,
    captureTotal := s.mku.captureTotal + 1 } }

/-- The edge is not suppressed (R62). -/
def edgeInTime (s : State) : Prop := ¬ ∃ t, s.mku.lastEdge = some t ∧ (s.timebase - t).toNat < 5000

theorem takeEdge_of_inTime {s : State} (inTime : edgeInTime s) : takeEdge s = takeCapture (edgeTaken s) :=
  takeEdge_taken fun early => inTime ((edgeSuppressed_iff s).1 early)

theorem takeEdge_edit {s : State} (inTime : edgeInTime s) (held : s.locks.markers ≠ none) :
    takeEdge s = loggedEdge s .ignoredEdit :=
  (takeEdge_of_inTime inTime).trans (takeCapture_edit (s := edgeTaken s) (matchingState_edit held))

theorem takeEdge_suspended {s : State} (inTime : edgeInTime s) (free : s.locks.markers = none) (suspended : s.mku.suspended = true) :
    takeEdge s = loggedEdge s .ignoredSuspended :=
  (takeEdge_of_inTime inTime).trans (takeCapture_suspended (s := edgeTaken s) (matchingState_suspended free suspended))

theorem takeEdge_lost {s : State} (inTime : edgeInTime s) (free : s.locks.markers = none) (active : s.mku.suspended = false)
    (lost : s.chu.quality = .lost) : takeEdge s = loggedEdge s .ignoredLost :=
  (takeEdge_of_inTime inTime).trans (takeCapture_lost (s := edgeTaken s) (matchingState_active free active) lost)

theorem takeEdge_unexpected {s : State} (inTime : edgeInTime s) (free : s.locks.markers = none) (active : s.mku.suspended = false)
    (found : s.chu.quality ≠ .lost) (unmatched : matchedMarker s (s.chu.chainage / 1000) = none) :
    takeEdge s = loggedEdge s .unexpected :=
  (takeEdge_of_inTime inTime).trans
    (takeCapture_unexpected (s := edgeTaken s) (matchingState_active free active) found unmatched)

/-- Settles O21: a suppressed edge, and the four taken edges that are only logged. The 5 ms test of R62 ranges over every 48-bit time,
so its decision is taken apart before anything looks at the goal. -/
theorem edgesThatDoNotMatchAreSuppressedOrLogged : Obligations.EdgesThatDoNotMatchAreSuppressedOrLogged := by
  unfold Obligations.EdgesThatDoNotMatchAreSuppressedOrLogged
  simp only [ite_prop_iff_and]
  intro s
  refine ⟨fun early => congrArg Host.Outcome.next (takeEdge_suppressed ((edgeSuppressed_iff s).2 early)), fun inTime =>
    ⟨fun held => congrArg Host.Outcome.next (takeEdge_edit inTime held),
      fun free suspended => congrArg Host.Outcome.next (takeEdge_suspended inTime free suspended),
      fun free active lost => congrArg Host.Outcome.next (takeEdge_lost inTime free active lost),
      fun free active found far => congrArg Host.Outcome.next (takeEdge_unexpected inTime free active found ?_)⟩⟩
  exact matchedMarker_eq_none (by simpa only [distanceMm_eq] using far)

/-- The marker after a match, with the entries read from the table. -/
theorem markerAfter_eq (s : State) (d : Direction) (m : Nat) :
    markerAfter s d m = (markerOrder d).find? fun i => aheadOf d i m && (s.mku.table[i]?).any (·.enabled) := by
  unfold markerAfter
  congr 1
  funext i
  cases entry : s.mku.table[i]? <;> simp [markerAt, entry, MarkerEntry.reset]

theorem applyRing_eq (m : Nat) (e : MarkerEntry) (jump : Bool) (s : State) :
    applyRing m e jump s =
      if jump then segmentBreak (afterMatch m (takeSnap e.surveyed s))
      else closeTest (markCorrected (afterMatch m (takeSnap e.surveyed s))) := rfl

/-- The position after a snap (R52). -/
theorem takeSnap_chu (mm : Nat) (s : State) :
    (takeSnap mm s).chu = { s.chu with chainage := mm * 1000, remainder := 0, travel := 0, quality := .surveyed } := by
  rw [takeSnap, changeQuality_chu]

/-- A snap tells the open slices its quality and does nothing else to the slices (R90). -/
theorem takeSnap_slb (mm : Nat) (s : State) :
    (takeSnap mm s).slb =
      if s.chu.quality = .surveyed then s.slb else { s.slb with openSlices := loweredTo .surveyed s.slb.openSlices } :=
  changeQuality_slb (s := { s with chu := { s.chu with chainage := mm * 1000, remainder := 0, travel := 0 } }) (by decide)

theorem takeSnap_slb_field {α : Type} (f : SliceBuilder → α) (mm : Nat) (s : State)
    (same : ∀ xs, f { s.slb with openSlices := xs } = f s.slb) : f (takeSnap mm s).slb = f s.slb := by
  rw [takeSnap_slb]
  split
  · rfl
  · exact same _

/-- What a RING marker leaves of the position (R52, R65, R66). -/
theorem applyRing_position_fields (m : Nat) (e : MarkerEntry) (jump : Bool) (s : State) :
    (applyRing m e jump s).chu = (takeSnap e.surveyed s).chu ∧
      (applyRing m e jump s).mku =
        { s.mku with missCount := 0, nextExpected := s.chu.direction.bind fun d => markerAfter s d m } := by
  have direction : (takeSnap e.surveyed s).chu.direction = s.chu.direction := by rw [takeSnap_chu]
  have mku : (afterMatch m (takeSnap e.surveyed s)).mku =
      { s.mku with missCount := 0, nextExpected := s.chu.direction.bind fun d => markerAfter s d m } := by
    obtain ⟨n, told⟩ : ∃ n, (takeSnap e.surveyed s).mku = { s.mku with nextExpected := n } := changeQuality_mku _ _
    have after : ∀ d, markerAfter (takeSnap e.surveyed s) d m = markerAfter s d m := fun d => by
      rw [markerAfter_eq, markerAfter_eq, told]
    simp only [afterMatch, direction, after, told]
  rw [applyRing_eq]
  split
  · exact ⟨segmentBreak_chu _, (segmentBreak_mku _).trans mku⟩
  · exact ⟨(closeTest_same _).chu, (closeTest_same _).mku.trans mku⟩

theorem applyRing_frame (m : Nat) (e : MarkerEntry) (jump : Bool) (s : State) :
    let t := applyRing m e jump s
    t.head1 = s.head1 ∧ t.head2 = s.head2 ∧ t.scv = s.scv ∧ t.env = s.env ∧ t.locks = s.locks ∧ t.setup = s.setup := by
  obtain ⟨head1, head2, scv, env, locks, -, setup, -⟩ : _ ∧ _ ∧ _ ∧ _ ∧ _ ∧ _ ∧ _ ∧ _ := changeQuality_frame .surveyed
    { s with chu := { s.chu with chainage := e.surveyed * 1000, remainder := 0, travel := 0 } }
  have snapped : ∀ {t : State}, SameButSlices t (afterMatch m (takeSnap e.surveyed s)) →
      t.head1 = s.head1 ∧ t.head2 = s.head2 ∧ t.scv = s.scv ∧ t.env = s.env ∧ t.locks = s.locks ∧ t.setup = s.setup :=
    fun same => ⟨same.head1.trans head1, same.head2.trans head2, same.scv.trans scv, same.env.trans env,
      same.locks.trans locks, same.setup.trans setup⟩
  rw [applyRing_eq]
  split
  · exact snapped (segmentBreak_same _)
  · exact snapped (sameButSlices ((closeTest_slices _).trans (markCorrected_slices _)))

/-- What a RING marker does to the slices (R65, R79, R80, R91). -/
theorem applyRing_slices_fields (m : Nat) (e : MarkerEntry) (jump : Bool) (s : State) :
    let t := applyRing m e jump s
    (s.slb.run ≠ .running → t.slb.segment = s.slb.segment ∧ t.slb.run = s.slb.run) ∧
      (s.slb.run = .running → jump = true →
        t.slb.openSlices = [] ∧ t.slb.segment = (if s.slb.segment = 65535 then s.slb.segment else s.slb.segment + 1) ∧
        t.slb.run = (if s.slb.segment ≠ 65535 then .running else
          if s.slb.openSlices = [] ∧ s.slb.pendingSlices = [] then .idle else .draining) ∧
        (s.slb.segment = 65535 → ∀ p, outstanding .runState (t.port p) = true) ∧ t.slb.direction = s.chu.direction ∧
        ∀ p, outstanding .segmentBreak (t.port p) = true) ∧
      (jump = false → t.slb.segment = s.slb.segment ∧ ∀ x ∈ t.slb.openSlices, x.header.flags.corrected = true) := by
  let u := afterMatch m (takeSnap e.surveyed s)
  have run : u.slb.run = s.slb.run := takeSnap_slb_field SliceBuilder.run _ _ fun _ => rfl
  have segment : u.slb.segment = s.slb.segment := takeSnap_slb_field SliceBuilder.segment _ _ fun _ => rfl
  have pending : u.slb.pendingSlices = s.slb.pendingSlices := takeSnap_slb_field SliceBuilder.pendingSlices _ _ fun _ => rfl
  have opened : u.slb.openSlices = [] ↔ s.slb.openSlices = [] := by
    change (takeSnap e.surveyed s).slb.openSlices = [] ↔ _
    rw [takeSnap_slb]
    split
    · rfl
    · exact loweredTo_eq_nil _ _
  have direction : u.chu.direction = s.chu.direction := (congrArg ChainageUnit.direction (takeSnap_chu e.surveyed s) :)
  have tested := closeTest_slb (markCorrected u)
  cases jump with
  | true =>
    rw [applyRing_eq, if_pos rfl]
    refine ⟨fun idle => ?_, fun running _ => ?_, fun small => absurd small (by decide)⟩
    · rw [segmentBreak_of_not_running (by rwa [run])]
      exact ⟨segment, run⟩
    · have summary := segmentBreak_summary (run.trans running) segment opened pending
      rwa [direction] at summary
  | false =>
    intro t
    have slb : t.slb = _ := tested
    rw [slb]
    refine ⟨fun _ => ⟨segment, run⟩, fun _ far => absurd far (by decide), fun _ => ⟨segment, fun x member => ?_⟩⟩
    obtain ⟨y, -, rfl⟩ := List.mem_map.1 ((List.dropWhile_sublist _).subset member)
    rfl

/-- The marker expected next after a match, as the statement writes it (R65). -/
theorem afterMatch_next (s : State) (m : Nat) :
    (s.chu.direction.bind fun d => markerAfter s d m) =
      match s.chu.direction with
      | none => none
      | some .increasing => (List.range 256).find? fun i => decide (m < i) && (s.mku.table[i]?).any (·.enabled)
      | some .decreasing => (List.range 256).reverse.find? fun i => decide (i < m) && (s.mku.table[i]?).any (·.enabled) := by
  cases s.chu.direction with
  | none => rfl
  | some d => cases d <;> exact markerAfter_eq s _ m

theorem logCapture_mku {r : Capture} {s : State} {x : MarkerUnit} (mku : s.mku = x) :
    (logCapture r s).mku = { x with log := (r :: x.log).take 16, captureTotal := x.captureTotal + 1 } := by
  rw [logCapture, raiseAll_mku, mku]

/-- Settles O22: what a match is, CHECK as one capture, and RING by the position and the slices that a snap leaves. -/
theorem matchedEdgeConfirmsOrSnaps : Obligations.MatchedEdgeConfirmsOrSnaps := by
  intro s m e matched c enabled next delta jump logged
  obtain ⟨at', on, inside, least⟩ := of_matchedMarker matched
  simp only [distanceMm_eq] at inside least
  refine ⟨⟨at', on, inside, least⟩, fun inTime free active found => ?_⟩
  have captured : takeEdge s = takeCapture (edgeTaken s) := takeEdge_of_inTime fun ⟨t, last, early⟩ => by
    have late := inTime t last
    omega
  have state : matchingState (edgeTaken s) = .active := matchingState_active free active
  have expected : ((edgeTaken s).chu.direction.bind fun d => markerAfter (edgeTaken s) d m) = next := afterMatch_next s m
  refine ⟨fun check => congrArg Host.Outcome.next ?_, fun ring => ?_⟩
  · rw [captured, takeCapture_check state found matched check, logCapture, afterMatch, expected]
    rfl
  · have rings := captured.trans (takeCapture_ring state found matched ring)
    obtain ⟨chu, mku⟩ := applyRing_position_fields m e jump (edgeTaken s)
    obtain ⟨idle, running, small⟩ := applyRing_slices_fields m e jump (edgeTaken s)
    rw [expected] at mku
    refine ⟨_, congrArg Host.Outcome.next rings, chu.trans (takeSnap_chu _ _), ?_, fun p => raiseAll_outstanding _ _ p,
      idle, fun far jumps => ?_, small, applyRing_frame m e jump (edgeTaken s)⟩
    · exact logCapture_mku mku
    · obtain ⟨closed, segment, run, ended, direction, broken⟩ := running far jumps
      exact ⟨closed, segment, run, fun last p => raiseAll_keepsEvents _ _ _ _ (ended last p), direction,
        fun p => raiseAll_keepsEvents _ _ _ _ (broken p)⟩

end Sys2Proof.Machine

/-! PROOF. The requests that steer the run: O23, O24 and O25. -/

namespace Sys2Proof.Machine

/-! ## The answer of a request, and changes of run state -/

/-- What an answered request leaves where it changed at most slices, store, advice and latches. -/
theorem answered_same {p : PortId} {st : Status} {echo : Byte} {payload : List Byte} {s t : State}
    (same : SameButSlices t (afterFrame p s)) :
    let u := withAnswer p st echo payload t
    u.chu = s.chu ∧ u.mku = s.mku ∧ u.env = s.env ∧ u.scv = s.scv ∧ u.head1 = s.head1 ∧ u.head2 = s.head2 ∧
      u.locks = s.locks ∧ u.signals = s.signals ∧ u.setup = s.setup := by
  simp only [withAnswer, setSlot_chu, setSlot_mku, setSlot_env, setSlot_scv, setSlot_head1, setSlot_head2, setSlot_locks,
    setSlot_signals, setSlot_setup]
  exact ⟨same.chu.trans (afterFrame_chu p s), same.mku.trans (afterFrame_mku p s), same.env.trans (afterFrame_env p s),
    same.scv.trans (afterFrame_scv p s), same.head1.trans (afterFrame_head p .h1 s), same.head2.trans (afterFrame_head p .h2 s),
    same.locks.trans (afterFrame_locks p s), same.signals.trans (afterFrame_signals p s), same.setup.trans (afterFrame_setup p s)⟩

@[simp] theorem withAnswer_slb (p : PortId) (st : Status) (echo : Byte) (payload : List Byte) (s : State) :
    (withAnswer p st echo payload s).slb = s.slb := setSlot_slb _ _ _
@[simp] theorem withAnswer_pst (p : PortId) (st : Status) (echo : Byte) (payload : List Byte) (s : State) :
    (withAnswer p st echo payload s).pst = s.pst := setSlot_pst _ _ _
@[simp] theorem withAnswer_adv (p : PortId) (st : Status) (echo : Byte) (payload : List Byte) (s : State) :
    (withAnswer p st echo payload s).adv = s.adv := setSlot_adv _ _ _
@[simp] theorem withAnswer_latch (p q : PortId) (st : Status) (echo : Byte) (payload : List Byte) (s : State) :
    ((withAnswer p st echo payload s).port q).latch = (s.port q).latch := setSlot_latch _ _ _ _

theorem withAnswer_keepsEvents (p : PortId) (st : Status) (echo : Byte) (payload : List Byte) (s : State) :
    keepsEvents s (withAnswer p st echo payload s) := fun e q stands => by rwa [outstanding, withAnswer_latch]

theorem setRun_of_ne {r : RunState} {s : State} (changes : s.slb.run ≠ r) :
    setRun r s = evaluateAdvice (raiseAll .runState { s with slb := { s.slb with run := r } }) := if_neg changes

@[simp] theorem setRun_stopLatch (r : RunState) (s : State) : (setRun r s).adv.stopLatch = s.adv.stopLatch := by
  unfold setRun; split <;> simp

@[simp] theorem setRun_lastStop (r : RunState) (s : State) : (setRun r s).adv.lastStop = s.adv.lastStop := by
  unfold setRun; split <;> simp

/-- With the run RUNNING and no head LOCKED the advice is STOP for NO_HEAD (R163). -/
theorem adviceOf_noHead {s : State} (running : s.slb.run = .running) (none : anyLocked s = false) :
    (adviceOf s).noHead = true ∧ (adviceOf s).level = .stop := by
  have noHead : causeNoHead s = true := by rw [causeNoHead, isRunning, running, none]; rfl
  refine ⟨noHead, ?_⟩
  rw [adviceOf]
  simp only [noHead, Bool.or_true, if_true]
  rfl

/-! ## START RUN (O23) -/

theorem startRunRequest_active {s : State} (active : s.slb.run ≠ .idle) : startRunRequest s = (s, bare .runActive) := if_pos active

theorem startRunRequest_notReady {s : State} (idle : s.slb.run = .idle)
    (unready : s.chu.quality = .lost ∨ s.setup.head1.enable = false ∧ s.setup.head2.enable = false) :
    startRunRequest s = (s, bare .notReady) := by
  rw [startRunRequest, if_neg (not_not.2 idle), if_pos unready]

theorem startRunRequest_begins {s : State} (idle : s.slb.run = .idle) (found : s.chu.quality ≠ .lost)
    (enabled : s.setup.head1.enable = true ∨ s.setup.head2.enable = true) :
    startRunRequest s = (setRun .running (beginRun s), bare .ok) := by
  have ready : ¬ (s.chu.quality = .lost ∨ s.setup.head1.enable = false ∧ s.setup.head2.enable = false) := by
    rintro (lost | ⟨off1, off2⟩)
    · exact found lost
    · simp [off1, off2] at enabled
  rw [startRunRequest, if_neg (not_not.2 idle), if_neg ready]

/-- Settles O23: the refusals in order, and the begin as a change to RUNNING of the cleared Slice Builder. -/
theorem startRunBeginsOrIsRefused : Obligations.StartRunBeginsOrIsRefused := by
  intro p s idle
  let a := afterFrame p s
  have slb : a.slb = s.slb := afterFrame_slb p s
  have chu : a.chu = s.chu := afterFrame_chu p s
  have setup : a.setup = s.setup := afterFrame_setup p s
  have judged : ∀ {r}, s.locks.setup = some p → startRunRequest a = r → needsSetup p startRunRequest a = r :=
    fun holder request => (needsSetup_holder (by rwa [afterFrame_locks]) _).trans request
  refine ⟨fun other => ?_, fun holder active => ?_, fun holder rests unready => ?_, fun holder rests found enabled => ?_⟩
  · exact congrArg Host.Outcome.next (plainRequest_unchanged idle _ (needsSetup_other (by rwa [afterFrame_locks]) _))
  · exact congrArg Host.Outcome.next
      (plainRequest_unchanged idle _ (judged holder (startRunRequest_active (by rwa [slb]))))
  · exact congrArg Host.Outcome.next
      (plainRequest_unchanged idle _ (judged holder (startRunRequest_notReady (by rwa [slb]) (by rwa [chu, setup]))))
  · have begins := judged holder (startRunRequest_begins (s := a) (by rwa [slb]) (by rwa [chu]) (by rwa [setup]))
    have run : (beginRun a).slb.run ≠ .running := by
      change a.slb.run ≠ _
      rw [slb, rests]; decide
    have answered : exec (.startRun p) s = .next (withAnswer p .ok 0x10 [] (setRun .running (beginRun a))) :=
      congrArg Host.Outcome.next ((plainRequest_idle idle 0x10 (needsSetup p startRunRequest)).trans (by rw [begins]; rfl))
    obtain ⟨chu', mku, env, scv, head1, head2, locks, signals, setup'⟩ := answered_same (p := p) (st := .ok) (echo := 0x10)
      (payload := []) (t := setRun .running (beginRun a)) (s := s)
      (sameButSlices ((setRun_slices .running (beginRun a)).trans rfl))
    refine ⟨_, answered, ?_, withAnswer_slot _ _ _ _ _, fun q => withAnswer_keepsEvents _ _ _ _ _ _ _ (setRun_raises run q), ?_, ?_,
      chu', mku, ?_, env, scv, head1, head2, locks, signals, setup'⟩
    · rw [withAnswer_slb, setRun_slb, beginRun, slb, chu]
    · rintro ⟨unlocked1, unlocked2⟩
      have head1 : a.head1 = s.head1 := afterFrame_head p .h1 s
      have head2 : a.head2 = s.head2 := afterFrame_head p .h2 s
      have unlocked : anyLocked a = false := by
        simp [anyLocked, headLocked, State.head, head1, head2, unlocked1, unlocked2]
      obtain ⟨noHead, level⟩ := adviceOf_noHead
        (s := raiseAll .runState { beginRun a with slb := { (beginRun a).slb with run := .running } }) rfl unlocked
      rw [withAnswer_adv, setRun_of_ne run, evaluateAdvice_advice]
      exact ⟨level, noHead⟩
    · rw [withAnswer_adv, setRun_stopLatch]; exact congrArg AdviceUnit.stopLatch (afterFrame_adv p s)
    · rw [withAnswer_pst, setRun_pst]; exact afterFrame_pst p s

/-! ## STOP RUN and the close test (O24) -/

theorem partThin_eq (n : Nat) (q : Option HeadPart) : partThin n q = q.any fun q => decide (q.revolutions < n) := by
  cases q <;> rfl

/-- The position of a head in the close test, along each direction (R92). -/
theorem passedBy_headPosition (s : State) (l i : Nat) (d : Direction) (h : HeadId) :
    passedBy d l i (headPosition s d h) =
      let start := ((s.head h).openRev.map (·.headChainage)).getD (headChainage s h)
      match d with
      | .increasing => decide ((i + 1) * l ≤ min (headChainage s h) start)
      | .decreasing => decide (max (headChainage s h) start < i * l) := by
  unfold headPosition
  cases (s.head h).openRev with
  | none => cases d <;> simp [passedBy]
  | some r =>
    cases d with
    | increasing =>
      simp only [passedBy, liesBehind, decide_eq_true_eq, Option.map_some, Option.getD_some]
      congr 2
      split <;> omega
    | decreasing =>
      simp only [passedBy, liesBehind, decide_eq_true_eq, Option.map_some, Option.getD_some]
      congr 2
      split <;> omega

/-- Settles O24: the flush of STOP RUN, a close field by field, and the close test as the passed front of the open slices. -/
theorem stopRunFlushesAndEndsTheRun : Obligations.StopRunFlushesAndEndsTheRun := by
  refine ⟨fun p s idle => ⟨fun rests => ?_, fun running => ?_⟩, fun kind s x => ?_, fun s => ?_⟩
  · have nothing : stopRunRequest (afterFrame p s) = (afterFrame p s, bare .ok) := by
      rw [stopRunRequest, afterFrame_slb, if_neg rests]
    exact congrArg Host.Outcome.next (plainRequest_unchanged idle _ nothing)
  · let a := afterFrame p s
    have slb : a.slb = s.slb := afterFrame_slb p s
    have flushed : (flush a).slb = _ := flush_slb a
    have run : (flush a).slb.run = .running := by rw [flush_run, slb, running]
    have ends : stopRunRequest a = (endRun (flush a), bare .ok) := by rw [stopRunRequest, slb, if_pos running]
    have answered : exec (.stopRun p) s = .next (withAnswer p .ok 0x11 [] (endRun (flush a))) :=
      congrArg Host.Outcome.next ((plainRequest_idle idle 0x11 stopRunRequest).trans (by rw [ends]; rfl))
    have same := sameButSlices ((endRun_slices (flush a)).trans (flush_slices a))
    have state : endState (flush a).slb = endState s.slb := by
      rw [flushed, slb]
      exact endState_flushed rfl rfl List.map_eq_nil_iff
    have closes : closedSlice .flush a = closedSlice .flush s := funext (closedSlice_congr (afterFrame_env p s)
      (afterFrame_setup p s) (afterFrame_timebase p s) .flush)
    refine ⟨_, answered, ?_, ?_, ?_, ?_, ?_, ?_, fun q => withAnswer_keepsEvents _ _ _ _ _ _ _ (endRun_raises run q),
      withAnswer_slot _ _ _ _ _, answered_same same⟩
    all_goals rw [withAnswer_slb, endRun_slb]
    · rw [flushed]
    · rw [flushed, slb, closes]
    · exact state
    all_goals rw [flushed, slb]
  · refine ⟨?_, rfl, fun k hk => ?_, rfl, rfl, rfl⟩
    · simp only [closedSlice, closeFlags, partThin_eq]
    · simp only [closedSlice, judgeSectors, Vector.getElem_mapIdx]
      rfl
  · intro passed t
    have same : passedByAll s = passed := funext fun x => by
      unfold passedByAll
      refine congrArg (List.all _) (funext fun h => ?_)
      rw [passedBy_headPosition, headChainage_eq, headLocked, ← decide_not] <;> cases x.header.direction <;> rfl
    have slb : t.slb = _ := closeTest_slb s
    have kept := closeTest_same s
    rw [same] at slb
    rw [slb]
    refine ⟨rfl, rfl, ?_, rfl, rfl, rfl, rfl, kept.chu, kept.mku, kept.env, kept.scv, kept.head1, kept.head2, kept.locks,
      kept.signals, kept.setup⟩
    cases (s.slb.openSlices.takeWhile passed).getLast? <;> simp

/-! ## ABORT RUN (O25) -/

theorem grantNextPort_pst (s : State) :
    (grantNextPort s).pst = match nextWaiting s with
      | none => { s.pst with holder := .none }
      | some q => { s.pst with holder := .port q, lastGranted := q } := by
  unfold grantNextPort
  cases nextWaiting s <;> rfl

@[simp] theorem abandonCommit_adv (s : State) : (abandonCommit s).adv = s.adv := by
  unfold abandonCommit
  dsimp only
  split
  · exact endCommitHold_adv _
  · rfl

/-- The state in which the commit path has given up its request and its hold, before the store goes on. -/
def givenUp (s : State) : State :=
  { s with pst := { s.pst with commitWaiting := false, commitBlocked := false, testRefused := false, retryKept := false } }

/-- What the commit path gives up with an abort (R77, R139, R149). -/
theorem abandonCommit_pst (s : State) :
    (abandonCommit s).pst =
      let u := { s.pst with commitWaiting := false, commitBlocked := false, testRefused := false, retryKept := false }
      if s.pst.holder = .commitPath then (match nextWaiting s with
        | none => { u with holder := .none }
        | some q => { u with holder := .port q, lastGranted := q }) else u := by
  unfold abandonCommit
  dsimp only
  split
  · have next : nextWaiting (givenUp s) = nextWaiting s := nextWaiting_congr rfl fun p => portWaiting_congr (by cases p <;> rfl)
    change (endCommitHold (givenUp s)).pst = _
    rw [endCommitHold, grantNextPort_pst]
    change (match nextWaiting (givenUp s) with
      | none => _
      | some q => _) = _
    rw [next]
    cases nextWaiting s <;> rfl
  · rfl

/-- Settles O25: the queue is discarded, the commit given up and the run IDLE. -/
theorem abortRunDiscardsTheQueue : Obligations.AbortRunDiscardsTheQueue := by
  intro p s idle
  let a := afterFrame p s
  have slb : a.slb = s.slb := afterFrame_slb p s
  refine ⟨fun rests => ?_, fun active => ?_⟩
  · have nothing : abortRunRequest a = (a, bare .ok) := by rw [abortRunRequest, slb, if_pos rests]
    exact congrArg Host.Outcome.next (plainRequest_unchanged idle _ nothing)
  · have aborts : abortRunRequest a = (setRun .idle (abandonCommit (discardQueue a)), bare .ok) := by
      rw [abortRunRequest, slb, if_neg active]
    have answered : exec (.abortRun p) s = .next (withAnswer p .ok 0x12 [] (setRun .idle (abandonCommit (discardQueue a)))) :=
      congrArg Host.Outcome.next ((plainRequest_idle idle 0x12 abortRunRequest).trans (by rw [aborts]; rfl))
    have discarded : slicesMask (abandonCommit (discardQueue a)) = slicesMask a :=
      (slices_of_store (abandonCommit_store (discardQueue a))).trans rfl
    have same : SameButSlices (setRun .idle (abandonCommit (discardQueue a))) a :=
      sameButSlices ((setRun_slices .idle _).trans discarded)
    have next : nextWaiting (discardQueue a) = nextWaiting s := by
      refine nextWaiting_congr (congrArg ProfileStore.lastGranted (afterFrame_pst p s)) fun q => ?_
      exact portWaiting_congr ((by cases q <;> rfl : _ = _).trans (afterFrame_slot p q s))
    have pst : (discardQueue a).pst = s.pst := afterFrame_pst p s
    have adv : a.adv = s.adv := afterFrame_adv p s
    have run : (abandonCommit (discardQueue a)).slb.run ≠ .idle := by
      rw [abandonCommit_slb]; change a.slb.run ≠ _; rwa [slb]
    refine ⟨_, answered, ?_, ?_, ?_, ?_, fun q => withAnswer_keepsEvents _ _ _ _ _ _ _ (setRun_raises run q),
      withAnswer_slot _ _ _ _ _, answered_same same⟩
    · rw [withAnswer_slb, setRun_slb, abandonCommit_slb, discardQueue, slb]
    · rw [withAnswer_pst, setRun_pst, abandonCommit_pst, next, pst] <;> rfl
    · rw [withAnswer_adv, setRun_stopLatch, abandonCommit_adv]; exact congrArg AdviceUnit.stopLatch adv
    · rw [withAnswer_adv, setRun_lastStop, abandonCommit_adv]; exact congrArg AdviceUnit.lastStop adv

end Sys2Proof.Machine

/-! PROOF. Choosing, opening and filling slices, the zone lookup, and the sector contents: O26, O27, O28, O30, O31 and O33. -/

namespace Sys2Proof.Machine

/-! ## Revolutions that are not binned (O26) -/

theorem isOpen_iff (i : Nat) (s : State) : isOpen i s = true ↔ ∃ x ∈ s.slb.openSlices, x.header.index = i := by
  simp [isOpen]

theorem isOpen_eq_false (i : Nat) (s : State) : isOpen i s = false ↔ ∀ x ∈ s.slb.openSlices, x.header.index ≠ i := by
  simp [isOpen]

theorem behindClosed_eq_false (d : Direction) (i : Nat) (s : State) :
    behindClosed d i s = false ↔ ∀ k, s.slb.lastClosed = some k → aheadOf d i k = true := by
  unfold behindClosed
  cases s.slb.lastClosed <;> simp

theorem behindRearmost_cons {d : Direction} {i : Nat} {s : State} {x : OpenSlice} {rest : List OpenSlice}
    (front : s.slb.openSlices = x :: rest) : behindRearmost d i s = aheadOf d x.header.index i := by
  unfold behindRearmost; rw [front]

theorem deliver_not_running {v : Delivery} {s : State} (rests : s.slb.run ≠ .running) : deliver v s = s := if_neg rests

theorem deliver_stale {v : Delivery} {s : State} (running : s.slb.run = .running) (stale : staleMark s v.head = true) :
    deliver v s = discardStale v.head s := by
  rw [deliver, if_pos running, if_pos stale]

theorem deliver_undirected {v : Delivery} {s : State} (running : s.slb.run = .running) (fresh : staleMark s v.head = false)
    (undirected : s.slb.direction = none ∨ s.chu.quality = .lost) : deliver v s = s := by
  rw [deliver, if_pos running, fresh]
  rcases undirected with none | lost
  · simp [none]
  · cases direction : s.slb.direction <;> simp [lost]

/-- A revolution that is taken for binning (R81). -/
theorem deliver_chooses {v : Delivery} {d : Direction} {s : State} (direction : s.slb.direction = some d)
    (running : s.slb.run = .running) (found : s.chu.quality ≠ .lost) (fresh : staleMark s v.head = false) :
    deliver v s = chooseSlice v d s := by
  rw [deliver, if_pos running, fresh, direction]
  simp [found]

/-! The cases of R83, in order. -/

section
variable {v : Delivery} {d : Direction} {s : State}

theorem chooseSlice_open (isOpen' : isOpen (v.headChainage / s.setup.sliceLength) s = true) :
    chooseSlice v d s = binRevolution v (v.headChainage / s.setup.sliceLength) s := if_pos isOpen'

theorem chooseSlice_late (closed : isOpen (v.headChainage / s.setup.sliceLength) s = false)
    (behind : behindClosed d (v.headChainage / s.setup.sliceLength) s = true) :
    chooseSlice v d s = countEvents v.head .late 1 s := by simp [chooseSlice, closed, behind]

theorem chooseSlice_overrun (closed : isOpen (v.headChainage / s.setup.sliceLength) s = false)
    (ahead : behindClosed d (v.headChainage / s.setup.sliceLength) s = false)
    (full : 64 ≤ s.slb.openSlices.length + s.slb.pendingSlices.length) : chooseSlice v d s = overrunDiscard s := by
  simp [chooseSlice, closed, ahead, Config.queueCapacity, full]

theorem chooseSlice_opens (closed : isOpen (v.headChainage / s.setup.sliceLength) s = false)
    (ahead : behindClosed d (v.headChainage / s.setup.sliceLength) s = false)
    (room : s.slb.openSlices.length + s.slb.pendingSlices.length < 64) (few : s.slb.openSlices.length ≠ 48) :
    chooseSlice v d s = binRevolution v (v.headChainage / s.setup.sliceLength)
      (openSlice d (v.headChainage / s.setup.sliceLength) s) := by
  simp [chooseSlice, closed, ahead, Config.queueCapacity, Config.openCapacity, few, Nat.not_le.2 room]

theorem chooseSlice_many (closed : isOpen (v.headChainage / s.setup.sliceLength) s = false)
    (ahead : behindClosed d (v.headChainage / s.setup.sliceLength) s = false)
    (room : s.slb.openSlices.length + s.slb.pendingSlices.length < 64) (many : s.slb.openSlices.length = 48) :
    chooseSlice v d s =
      if behindRearmost d (v.headChainage / s.setup.sliceLength) s then countEvents v.head .late 1 s
      else binRevolution v (v.headChainage / s.setup.sliceLength)
        (openSlice d (v.headChainage / s.setup.sliceLength) (closeForced s)) := by
  have short : ¬ 64 ≤ 48 + s.slb.pendingSlices.length := by omega
  simp [chooseSlice, closed, ahead, Config.queueCapacity, Config.openCapacity, many, short]

end

/-- Settles O26: the cases of R81 and R83 that bin nothing, in order. -/
theorem revolutionsNotBinnedAreDiscarded : Obligations.RevolutionsNotBinnedAreDiscarded := by
  intro v s i late
  have counts : countEvents v.head .late 1 s = late := countEvents_one _ _ _
  refine ⟨fun rests => deliver_not_running rests, fun running stale => ?_, fun running undirected fresh =>
    deliver_undirected running fresh undirected, fun d direction running found fresh closed => ?_⟩
  · rw [deliver_stale running stale, discardStale, counts]
  · have chooses := deliver_chooses (v := v) direction running found fresh
    have notOpen := (isOpen_eq_false i s).2 closed
    refine ⟨fun k last behind => ?_, fun ahead => ⟨fun full => ?_, fun x rest front many room behind => ?_⟩⟩
    · have behind' : behindClosed d i s = true := by
        unfold behindClosed; rw [last]; simp [behind]
      rw [chooses, chooseSlice_late notOpen behind', counts]
    · rw [chooses, chooseSlice_overrun notOpen ((behindClosed_eq_false d i s).2 ahead) full, overrunDiscard, addSat, Config.sat16]
    · rw [chooses, chooseSlice_many notOpen ((behindClosed_eq_false d i s).2 ahead) room many, behindRearmost_cons front, behind,
        if_pos rfl, counts]

/-! ## Binning a revolution (O30, and what O27 needs of it) -/

/-- One valid sample (R112, R113). -/
theorem binSample_valid {e : EnvelopeTables} {profile : Nat} {c : SampleSetup} {k rc sector : Nat} {x : Sample} {r : BinResult}
    (judged : judgeSample c k x = some (rc, sector)) (inside : sector < 64) :
    binSample e profile c k x r =
      ⟨r.sectors.set sector (takeSample (radius e profile sector) rc r.sectors[sector]), r.valid + 1, r.discarded⟩ := by
  have places : ∀ y, r.sectors.setIfInBounds sector y = r.sectors.set sector y := fun y => by
    ext i hi : 1
    simp [Vector.getElem_setIfInBounds, Vector.getElem_set]
  simp only [binSample, judged, places, Vector.getElem?_eq_getElem inside, Option.getD_some]

theorem binSample_invalid {e : EnvelopeTables} {profile : Nat} {c : SampleSetup} {k : Nat} {x : Sample} {r : BinResult}
    (judged : judgeSample c k x = none) : binSample e profile c k x r = { r with discarded := r.discarded + 1 } := by
  simp [binSample, judged]

theorem binSample_count (e : EnvelopeTables) (profile : Nat) (c : SampleSetup) (k : Nat) (x : Sample) (r : BinResult) :
    (binSample e profile c k x r).valid + (binSample e profile c k x r).discarded = r.valid + r.discarded + 1 := by
  unfold binSample
  split <;> (dsimp only; omega)

/-- Each sample is counted once (R111). -/
theorem binSamples_count (e : Nat → EnvelopeTables) (profile : Nat) (c : SampleSetup) (k : Nat) (xs : List Sample) (r : BinResult) :
    (binSamples e profile c k xs r).valid + (binSamples e profile c k xs r).discarded = r.valid + r.discarded + xs.length := by
  induction xs generalizing k r with
  | nil => rfl
  | cons x rest ih => rw [binSamples, ih, binSample_count, List.length_cons]; omega

/-- What every sector keeps: a minimum exactly when it has hits, and its counts within a byte (R112). -/
def sectorSound (x : SectorContents) : Prop :=
  x.minimum.isSome = decide (0 < x.hits) ∧ x.hits ≤ 255 ∧ x.intrusions ≤ 255

theorem sectorSound_takeSample {radius rc : Nat} {x : SectorContents} (sound : sectorSound x) :
    sectorSound (takeSample radius rc x) := by
  obtain ⟨-, -, intrusions⟩ := sound
  refine ⟨?_, Nat.min_le_left _ _, ?_⟩
  · simp [takeSample, addSat, Config.sat8]
  · simp only [takeSample]
    split
    · exact Nat.min_le_left _ _
    · exact intrusions

theorem sectorsSound_binSample {e : EnvelopeTables} {profile : Nat} {c : SampleSetup} {k : Nat} {x : Sample} {r : BinResult}
    (sound : ∀ i (hi : i < 64), sectorSound r.sectors[i]) :
    ∀ i (hi : i < 64), sectorSound (binSample e profile c k x r).sectors[i] := by
  intro i hi
  cases judged : judgeSample c k x with
  | none => simpa [binSample_invalid judged] using sound i hi
  | some place =>
    obtain ⟨rc, sector⟩ := place
    by_cases inside : sector < 64
    · simp only [binSample_valid judged inside, Vector.getElem_set]
      split
      · exact sectorSound_takeSample (sound sector inside)
      · exact sound i hi
    · have outside : sector ≠ i := by omega
      simpa [binSample, judged, Vector.getElem_setIfInBounds, outside] using sound i hi

theorem sectorsSound_binSamples {e : Nat → EnvelopeTables} {profile : Nat} {c : SampleSetup} {k : Nat} {xs : List Sample}
    {r : BinResult} (sound : ∀ i (hi : i < 64), sectorSound r.sectors[i]) :
    ∀ i (hi : i < 64), sectorSound (binSamples e profile c k xs r).sectors[i] := by
  induction xs generalizing k r with
  | nil => exact sound
  | cons x rest ih => exact ih (sectorsSound_binSample sound)

/-- Settles O30: sample by sample, the count and the soundness by induction on the samples, and the tables at a place. -/
theorem binningCountsEverySampleOnce : Obligations.BinningCountsEverySampleOnce := by
  refine ⟨fun e profile c k xs r => ⟨rfl, fun x judged => ?_, fun x rc sector judged inside => ?_, binSamples_count e profile c k xs r,
    sectorsSound_binSamples⟩, fun s => ⟨fun k => (writesToCome k s.freeCount 0 s.slb.radiusWrites).length, fun k => ⟨?_, ?_, ?_⟩⟩⟩
  · rw [binSamples, binSample_invalid judged]
  · rw [binSamples, binSample_valid judged inside]
    have lower : ∀ q : Option Nat, lowerOf q rc = match q with
        | none => rc
        | some m => min m rc := fun q => by cases q <;> rfl
    simp only [takeSample, lower, addSat, Config.sat8, radius]
    rfl
  · exact writesToCome_shrinks k _ 0 _
  · have front := congrArg List.length (writesToCome_take k s.freeCount 0 s.slb.radiusWrites)
    rw [List.length_take] at front
    exact (le_of_eq front).trans (Nat.min_le_right _ _)
  · rw [tablesAt, beforeWrites_eq, ← writesToCome_take]

/-! ## The order of two binnings (O31) -/

/-- Two samples leave a sector the same in either order (R112, R113). -/
theorem takeSample_comm (a b rc rd : Nat) (x : SectorContents) :
    takeSample a rc (takeSample b rd x) = takeSample b rd (takeSample a rc x) := by
  have minimum : lowerOf (some (lowerOf x.minimum rd)) rc = lowerOf (some (lowerOf x.minimum rc)) rd := by
    cases x.minimum <;> simp only [lowerOf] <;> omega
  simp only [takeSample, minimum, SectorContents.mk.injEq, true_and]
  split_ifs <;> rfl

/-- What one sample does to the sectors. -/
def sampleSectors (e : EnvelopeTables) (profile : Nat) (c : SampleSetup) (k : Nat) (x : Sample) (z : Vector SectorContents 64) :
    Vector SectorContents 64 :=
  match judgeSample c k x with
  | none => z
  | some (rc, sector) =>
    z.setIfInBounds sector (takeSample (radius e profile sector) rc ((z[sector]?).getD ⟨none, 0, 0⟩))

theorem binSample_sectors (e : EnvelopeTables) (profile : Nat) (c : SampleSetup) (k : Nat) (x : Sample) (r : BinResult) :
    (binSample e profile c k x r).sectors = sampleSectors e profile c k x r.sectors := by
  unfold binSample sampleSectors
  cases judgeSample c k x <;> rfl

theorem sampleSectors_comm (e f : EnvelopeTables) (profile : Nat) (c d : SampleSetup) (k j : Nat) (x y : Sample)
    (z : Vector SectorContents 64) :
    sampleSectors e profile c k x (sampleSectors f profile d j y z) =
      sampleSectors f profile d j y (sampleSectors e profile c k x z) := by
  unfold sampleSectors
  cases judgeSample c k x with
  | none => rfl
  | some first =>
    cases judgeSample d j y with
    | none => rfl
    | some second =>
      obtain ⟨rc, sector⟩ := first
      obtain ⟨rd, other⟩ := second
      ext i hi : 1
      by_cases same : sector = other
      · subst same
        by_cases here : sector = i
        · subst here
          simp [hi, takeSample_comm]
        · simp [here]
      · simp only [Vector.getElem_setIfInBounds, Vector.getElem?_setIfInBounds_ne same,
          Vector.getElem?_setIfInBounds_ne (Ne.symm same)]
        split_ifs with second first
        · exact absurd (first.trans second.symm) (Ne.symm same)
        all_goals rfl

/-- What the samples from index k on do to the sectors. -/
def samplesSectors (e : Nat → EnvelopeTables) (profile : Nat) (c : SampleSetup) :
    Nat → List Sample → Vector SectorContents 64 → Vector SectorContents 64
  | _, [], z => z
  | k, x :: xs, z => samplesSectors e profile c (k + 1) xs (sampleSectors (e k) profile c k x z)

theorem binSamples_sectors (e : Nat → EnvelopeTables) (profile : Nat) (c : SampleSetup) (k : Nat) (xs : List Sample) (r : BinResult) :
    (binSamples e profile c k xs r).sectors = samplesSectors e profile c k xs r.sectors := by
  induction xs generalizing k r with
  | nil => rfl
  | cons x rest ih => rw [binSamples, ih, binSample_sectors, samplesSectors]

theorem samplesSectors_sample_comm (e : EnvelopeTables) (f : Nat → EnvelopeTables) (profile : Nat) (c d : SampleSetup) (k j : Nat)
    (x : Sample) (ys : List Sample) (z : Vector SectorContents 64) :
    sampleSectors e profile c k x (samplesSectors f profile d j ys z) =
      samplesSectors f profile d j ys (sampleSectors e profile c k x z) := by
  induction ys generalizing j z with
  | nil => rfl
  | cons y rest ih => rw [samplesSectors, samplesSectors, ih, sampleSectors_comm]

theorem samplesSectors_comm (e f : Nat → EnvelopeTables) (profile : Nat) (c d : SampleSetup) (k j : Nat) (xs ys : List Sample)
    (z : Vector SectorContents 64) :
    samplesSectors e profile c k xs (samplesSectors f profile d j ys z) =
      samplesSectors f profile d j ys (samplesSectors e profile c k xs z) := by
  induction xs generalizing k z with
  | nil => rfl
  | cons x rest ih => rw [samplesSectors, samplesSectors, samplesSectors_sample_comm, ih]

/-- The valid samples from index k on: the judgement looks at no sector. -/
def validCount (c : SampleSetup) : Nat → List Sample → Nat
  | _, [] => 0
  | k, x :: xs => (if (judgeSample c k x).isSome then 1 else 0) + validCount c (k + 1) xs

theorem binSamples_valid (e : Nat → EnvelopeTables) (profile : Nat) (c : SampleSetup) (k : Nat) (xs : List Sample) (r : BinResult) :
    (binSamples e profile c k xs r).valid = r.valid + validCount c k xs := by
  induction xs generalizing k r with
  | nil => rfl
  | cons x rest ih =>
    have one : (binSample (e k) profile c k x r).valid = r.valid + if (judgeSample c k x).isSome then 1 else 0 := by
      unfold binSample
      cases judgeSample c k x <;> rfl
    rw [binSamples, ih, one, validCount, Nat.add_assoc]

theorem binSamples_discarded (e : Nat → EnvelopeTables) (profile : Nat) (c : SampleSetup) (xs : List Sample)
    (z : Vector SectorContents 64) : (binSamples e profile c 0 xs ⟨z, 0, 0⟩).discarded = xs.length - validCount c 0 xs := by
  have count := binSamples_count e profile c 0 xs ⟨z, 0, 0⟩
  have valid := binSamples_valid e profile c 0 xs ⟨z, 0, 0⟩
  dsimp only at count valid
  omega

/-- The setup of a delivery's samples (R102). -/
def deliverySetup (u : Setup) (v : Delivery) : SampleSetup := sampleSetup u v.head v.rate v.cant

/-- A slice with a revolution of a delivery binned into it (R88, R89). -/
theorem binInto_slice (u : Setup) (e : Nat → EnvelopeTables) (v : Delivery) (x : OpenSlice) :
    let n := validCount (deliverySetup u v) 0 v.samples
    let part := fun q => some (takeRevolution v n (v.samples.length - n) q)
    (binInto u e v x).1 =
      { x with
        header := { x.header with
          flags := { x.header.flags with
            cantHeld := x.header.flags.cantHeld || v.cantInvalid, cantClamped := x.header.flags.cantClamped || v.cantClamped },
          part1 := if v.head = .h1 then part x.header.part1 else x.header.part1,
          part2 := if v.head = .h2 then part x.header.part2 else x.header.part2 },
        sectors := samplesSectors e x.header.zone.profile (deliverySetup u v) 0 v.samples x.sectors } := by
  have valid := binSamples_valid e x.header.zone.profile (deliverySetup u v) 0 v.samples ⟨x.sectors, 0, 0⟩
  have discarded := binSamples_discarded e x.header.zone.profile (deliverySetup u v) v.samples x.sectors
  have sectors := binSamples_sectors e x.header.zone.profile (deliverySetup u v) 0 v.samples ⟨x.sectors, 0, 0⟩
  simp only [deliverySetup, Nat.zero_add] at valid discarded sectors ⊢
  simp only [binInto, valid, discarded, sectors]
  cases v.head <;> rfl

theorem binInto_valid (u : Setup) (e : Nat → EnvelopeTables) (v : Delivery) (x : OpenSlice) :
    (binInto u e v x).2.valid = validCount (deliverySetup u v) 0 v.samples :=
  (binSamples_valid _ _ _ _ _ _).trans (Nat.zero_add _)

theorem binInto_discarded (u : Setup) (e : Nat → EnvelopeTables) (v : Delivery) (x : OpenSlice) :
    (binInto u e v x).2.discarded = v.samples.length - validCount (deliverySetup u v) 0 v.samples :=
  binSamples_discarded _ _ _ _ _

/-- Settles O31: samples commute in every sector, and the counts of a binning look at no sector. -/
theorem binningOrderDoesNotMatter : Obligations.BinningOrderDoesNotMatter := by
  refine ⟨fun u e f v w x apart => ⟨?_, ?_, ?_⟩, fun e f profile c d xs ys z => ?_⟩
  · simp only [binInto_slice, samplesSectors_comm e f, Bool.or_assoc, Bool.or_comm v.cantInvalid, Bool.or_comm v.cantClamped]
    cases own : v.head with
    | h1 =>
      cases other : w.head with
      | h1 => exact absurd (own.trans other.symm) apart
      | h2 => rfl
    | h2 =>
      cases other : w.head with
      | h1 => rfl
      | h2 => exact absurd (own.trans other.symm) apart
  · rw [binInto_valid, binInto_valid]
  · rw [binInto_discarded, binInto_discarded]
  · simp only [binSamples_sectors]
    exact samplesSectors_comm f e profile d c 0 0 ys xs z

/-! ## Opening and filling (O27) -/

/-- Binning into the open slice of an index, where the indices are distinct, is a map over the open slices. -/
theorem binAt_of_nodup {u : Setup} {e : Nat → EnvelopeTables} {v : Delivery} {i : Nat} {x : OpenSlice} {xs : List OpenSlice}
    (member : x ∈ xs) (index : x.header.index = i) (distinct : (xs.map (·.header.index)).Nodup) :
    binAt u e v i xs =
      (xs.map fun y => if y.header.index = i then (binInto u e v y).1 else y, (binInto u e v x).2.discarded) := by
  induction xs with
  | nil => exact absurd member (by simp)
  | cons y rest ih =>
    simp only [List.map_cons, List.nodup_cons, List.mem_map] at distinct
    obtain ⟨fresh, distinct⟩ := distinct
    unfold binAt
    by_cases here : y.header.index = i
    · have same : x = y := (List.mem_cons.1 member).resolve_right fun inside => fresh ⟨x, inside, index.trans here.symm⟩
      have others : (rest.map fun z => if z.header.index = i then (binInto u e v z).1 else z) = rest :=
        (List.map_congr_left fun z inside => if_neg fun index => fresh ⟨z, inside, index.trans here.symm⟩).trans (List.map_id' rest)
      rw [if_pos here, List.map_cons, if_pos here, others, same]
    · have inside : x ∈ rest := (List.mem_cons.1 member).resolve_left fun same => here (same ▸ index)
      rw [if_neg here, ih inside distinct, List.map_cons, if_neg here]

/-- The place of a new slice in the open part (R86). -/
theorem insertOpen_split (d : Direction) (x : OpenSlice) (xs : List OpenSlice) :
    ∃ front back, xs = front ++ back ∧ insertOpen d x xs = front ++ x :: back ∧
      (∀ y ∈ front, aheadOf d x.header.index y.header.index = true) ∧
      ∀ y, back.head? = some y → aheadOf d x.header.index y.header.index = false := by
  induction xs with
  | nil => exact ⟨[], [], rfl, rfl, by simp, by simp⟩
  | cons y rest ih =>
    unfold insertOpen
    by_cases ahead : aheadOf d x.header.index y.header.index = true
    · obtain ⟨front, back, split, inserted, before, after⟩ := ih
      refine ⟨y :: front, back, by rw [split]; rfl, by rw [if_pos ahead, inserted]; rfl, fun z inside => ?_, after⟩
      rcases List.mem_cons.1 inside with rfl | inside
      · exact ahead
      · exact before z inside
    · refine ⟨[], y :: rest, rfl, if_neg ahead, by simp, fun z first => ?_⟩
      obtain rfl : y = z := by simpa using first
      exact Bool.eq_false_iff.2 ahead

theorem storeFree_congr {s t : State} (holder : t.pst.holder = s.pst.holder) (waiting : ∀ p, portWaiting t p = portWaiting s p) :
    storeFree t = storeFree s := by
  simp only [storeFree, anyPortWaiting, holder, waiting]

/-- The store after a slice becomes the newest pending one: the commit path is asked when it is also the oldest (R93, R96). -/
theorem appendPending_pst (x : PendingSlice) (rest : List OpenSlice) (s : State) :
    (s.slb.pendingSlices ≠ [] → (appendPending x rest s).pst = s.pst) ∧
      (s.slb.pendingSlices = [] → (appendPending x rest s).pst.records = s.pst.records ∧
        (storeFree s = true → (appendPending x rest s).pst.holder = .commitPath) ∧
        (storeFree s = false → (appendPending x rest s).pst.commitWaiting = true)) := by
  unfold appendPending
  refine ⟨fun some => ?_, fun none => ?_⟩
  · rw [if_neg (by simpa using some), evaluateAdvice_pst]
  · rw [if_pos (by simpa using none)]
    have free : ∀ {b : SliceBuilder}, storeFree (evaluateAdvice { s with slb := b }) = storeFree s := fun {b} =>
      storeFree_congr (by rw [evaluateAdvice_pst]) fun p => by
        rw [(evaluateAdvice_same _).waiting]
        exact portWaiting_congr (by cases p <;> rfl)
    refine ⟨?_, fun isFree => ?_, fun held => ?_⟩
    · exact records_of_contents ((askCommit_contents _).trans (by rw [evaluateAdvice_pst]))
    · rw [askCommit, free, if_pos isFree]; rfl
    · rw [askCommit, free, held]; rfl

theorem takeRevolution_eq (v : Delivery) (valid discarded : Nat) (q : Option HeadPart) :
    takeRevolution v valid discarded q = match q with
      | none => HeadPart.mk 1 valid discarded v.rate v.cant
      | some q => HeadPart.mk (q.revolutions + 1) (q.valid + valid) (q.discarded + discarded)
          (if rateCode q.lowestRate < rateCode v.rate then v.rate else q.lowestRate) (q.cantSum + v.cant) := by
  cases q with
  | none => simp [takeRevolution, lowerRate]
  | some q => rfl

/-- What the binned slice and its result are (R88, R89). -/
theorem binInto_fields (u : Setup) (e : Nat → EnvelopeTables) (v : Delivery) (x : OpenSlice) :
    let r := binSamples e x.header.zone.profile (sampleSetup u v.head v.rate v.cant) 0 v.samples ⟨x.sectors, 0, 0⟩
    let part := fun q => some (takeRevolution v r.valid r.discarded q)
    binInto u e v x =
      ({ x with
        header := { x.header with
          flags := { x.header.flags with
            cantHeld := x.header.flags.cantHeld || v.cantInvalid, cantClamped := x.header.flags.cantClamped || v.cantClamped },
          part1 := if v.head = .h1 then part x.header.part1 else x.header.part1,
          part2 := if v.head = .h2 then part x.header.part2 else x.header.part2 },
        sectors := r.sectors }, r) := by
  unfold binInto
  cases v.head <;> rfl

/-- Settles O27: the case of R83 that bins, a binning, a close and an opening, each as what it leaves. -/
theorem slicesOpenAndTakeRevolutions : Obligations.SlicesOpenAndTakeRevolutions := by
  refine ⟨?_, ?_, ?_, ?_, ?_⟩
  · intro v d s direction running found fresh i
    have chooses := deliver_chooses (v := v) direction running found fresh
    refine ⟨fun opened => chooses.trans (chooseSlice_open ((isOpen_iff i s).2 opened)), fun closed ahead room => ?_⟩
    have notOpen := (isOpen_eq_false i s).2 closed
    have notBehind := (behindClosed_eq_false d i s).2 ahead
    refine ⟨fun few => chooses.trans (chooseSlice_opens notOpen notBehind room few), fun x rest front many behind => ?_⟩
    rw [chooses, chooseSlice_many notOpen notBehind room many, behindRearmost_cons front, behind, if_neg (by decide)]
    rfl
  · intro v i x s member index distinct e
    have binned := binAt_of_nodup (u := s.setup) (e := e) (v := v) member index distinct
    change closeTest (countEvents v.head .discardedSamples (binAt s.setup e v i s.slb.openSlices).2
      (settleWrites { s with slb := { s.slb with openSlices := (binAt s.setup e v i s.slb.openSlices).1 } })) = _
    rw [binned, settleWrites_eq]
  · intro kind x rest s front t
    have slb := closeRearmost_slb (kind := kind) front
    have closes : t = reportClass _ _ (appendPending (closedSlice kind s x) rest s) := closeRearmost_cons kind x rest s front
    have pst : t.pst = (appendPending (closedSlice kind s x) rest s).pst := by rw [closes, reportClass_pst]
    obtain ⟨some, none⟩ := appendPending_pst (closedSlice kind s x) rest s
    refine ⟨slb, ?_⟩
    rw [pst]
    exact ⟨some, none⟩
  · intro d i s between
    obtain ⟨front, back, split, inserted, before, after⟩ := insertOpen_split d (newSlice s d i) s.slb.openSlices
    have skips : skippedBins d s.slb.lastOpened i = between := rfl
    refine ⟨newSlice s d i, front, back, split, inserted, before, after, rfl, rfl, rfl, rfl, rfl, rfl, rfl, rfl, rfl, ?_, rfl, rfl,
      fun k hk => ?_, ?_, rfl, rfl, ?_⟩
    · rw [← skips]
      simp only [newSlice, addSat, Config.sat16]
    · simp [newSlice, freshSectors]
    · simp [newSlice, Option.isSome_iff_ne_none]
    · exact congrArg Option.some (rfl : foremostOpened d s.slb.lastOpened i = _)
  · intro u e v x y r part
    have binned : binInto u e v x = _ := binInto_fields u e v x
    have parts : part = fun q => some (takeRevolution v r.valid r.discarded q) :=
      funext fun q => congrArg Option.some ((takeRevolution_eq v r.valid r.discarded q).trans (by cases q <;> rfl)).symm
    refine ⟨by rw [binned], ?_, (binSamples_count _ _ _ _ _ _).trans (by simp), ?_, ?_⟩
    · change (binInto u e v x).1.sectors = _
      rw [binned]
    · change (binInto u e v x).1.editMark = _
      rw [binned]
    · change (binInto u e v x).1.header = _
      rw [binned, parts]

/-! ## The zone list (O28) -/

/-- r is the first index from n on that meets P. -/
def firstFrom (P : Nat → Prop) (n : Nat) : Option Nat → Prop
  | none => ∀ k, n ≤ k → ¬ P k
  | some i => n ≤ i ∧ P i ∧ ∀ k, n ≤ k → k < i → ¬ P k

/-- An index that does not meet P may be passed over. -/
theorem firstFrom_pred {P : Nat → Prop} {n : Nat} {r : Option Nat} (skips : ¬ P n) (first : firstFrom P (n + 1) r) : firstFrom P n r := by
  have beyond : ∀ k, n ≤ k → (n + 1 ≤ k → ¬ P k) → ¬ P k := fun k from' other => by
    rcases Nat.lt_or_eq_of_le from' with more | rfl
    · exact other more
    · exact skips
  cases r with
  | none => exact fun k from' => beyond k from' (first k)
  | some i =>
    obtain ⟨from', holds, least⟩ := first
    exact ⟨by omega, holds, fun k low below => beyond k low fun more => least k more below⟩

theorem firstFrom_some_iff {P : Nat → Prop} {r : Option Nat} (first : firstFrom P 0 r) (i : Nat) :
    r = some i ↔ P i ∧ ∀ j, j < i → ¬ P j := by
  cases r with
  | none => exact ⟨fun h => by simp at h, fun h => absurd h.1 (first i (Nat.zero_le i))⟩
  | some k =>
    obtain ⟨-, holds, least⟩ := first
    refine ⟨fun h => ?_, fun ⟨here, before⟩ => ?_⟩
    · obtain rfl : k = i := by simpa using h
      exact ⟨holds, fun j => least j (Nat.zero_le j)⟩
    · rcases Nat.lt_trichotomy k i with less | rfl | more
      · exact absurd holds (before k less)
      · rfl
      · exact absurd here (least i (Nat.zero_le i) more)

theorem firstFrom_none_iff {P : Nat → Prop} {r : Option Nat} (first : firstFrom P 0 r) : r = none ↔ ∀ i, ¬ P i := by
  cases r with
  | none => exact ⟨fun _ i => first i (Nat.zero_le i), fun _ => rfl⟩
  | some k => exact ⟨fun h => by simp at h, fun h => absurd first.2.1 (h k)⟩

/-- The entry at an index of a zone list fails against those before it (R129). -/
def zoneFailsAt (zs : List ZoneEntry) (i : Nat) : Prop := ∃ z, zs[i]? = some z ∧ zoneFails (zs.take i) z = true

theorem firstFailingZone_first (earlier zs : List ZoneEntry) :
    firstFrom (zoneFailsAt (earlier ++ zs)) earlier.length (firstFailingZone earlier.length earlier zs) := by
  induction zs generalizing earlier with
  | nil =>
    rintro k from' ⟨z, at', -⟩
    rw [List.append_nil, List.getElem?_eq_none from'] at at'
    exact absurd at' (by simp)
  | cons z rest ih =>
    have here : (earlier ++ z :: rest)[earlier.length]? = some z := by simp
    have before : (earlier ++ z :: rest).take earlier.length = earlier := by simp
    unfold firstFailingZone
    by_cases fails : zoneFails earlier z = true
    · rw [if_pos fails]
      exact ⟨le_rfl, ⟨z, here, by rwa [before]⟩, fun k low below => absurd below (Nat.not_lt.2 low)⟩
    · rw [if_neg fails]
      refine firstFrom_pred ?_ ?_
      · rintro ⟨y, at', fault⟩
        obtain rfl : z = y := by rw [here] at at'; simpa using at'
        rw [before] at fault
        exact fails fault
      · simpa using ih (earlier ++ [z])

/-- What it is to fail, in terms of the entries (R126, R129). -/
theorem zoneFailsAt_iff (zs : List ZoneEntry) (i : Nat) :
    zoneFailsAt zs i ↔ ∃ z, zs[i]? = some z ∧ z.enabled = true ∧ (z.stopAt ≤ z.start ∨
      ∃ (j : Nat) (y : ZoneEntry), j < i ∧ zs[j]? = some y ∧ y.enabled = true ∧ y.start < y.stopAt ∧
        y.start < z.stopAt ∧ z.start < y.stopAt) := by
  have before : ∀ P : ZoneEntry → Prop, (∃ y ∈ zs.take i, P y) ↔ ∃ (j : Nat) (y : ZoneEntry), j < i ∧ zs[j]? = some y ∧ P y := by
    intro P
    constructor
    · rintro ⟨y, inside, holds⟩
      obtain ⟨j, at'⟩ := List.mem_iff_getElem?.1 inside
      rw [List.getElem?_take] at at'
      split at at'
      · rename_i below
        exact ⟨j, y, below, at', holds⟩
      · simp at at'
    · rintro ⟨j, y, below, at', holds⟩
      exact ⟨y, List.mem_iff_getElem?.2 ⟨j, by rw [List.getElem?_take, if_pos below, at']⟩, holds⟩
  refine exists_congr fun z => and_congr_right fun _ => ?_
  simp only [zoneFails, zonesOverlap, Bool.and_eq_true, Bool.or_eq_true, decide_eq_true_eq, List.any_eq_true, before, and_assoc]

theorem zoneListFault_first (e : EnvelopeTables) : firstFrom (zoneFailsAt e.zones.toList) 0 (zoneListFault e) :=
  firstFailingZone_first [] e.zones.toList

/-- The zone lookup takes the first entry that holds the key (R125). -/
theorem findZone_of_first {key i k : Nat} {zs : List ZoneEntry} {z : ZoneEntry} (at' : zs[k]? = some z)
    (holds : zoneHolds key z = true) (first : ∀ j y, j < k → zs[j]? = some y → zoneHolds key y = false) :
    findZone key i zs = some (choiceOf (i + k) z) := by
  induction zs generalizing i k with
  | nil => simp at at'
  | cons y rest ih =>
    unfold findZone
    cases k with
    | zero =>
      obtain rfl : y = z := by simpa using at'
      rw [if_pos holds]; rfl
    | succ k =>
      rw [if_neg (by rw [first 0 y (Nat.succ_pos k) rfl]; decide),
        ih (by simpa using at') fun j x below inside => first (j + 1) x (by omega) (by simpa using inside)]
      rw [Nat.add_assoc, Nat.add_comm 1 k]

theorem findZone_none {key i : Nat} {zs : List ZoneEntry} (none : ∀ z ∈ zs, zoneHolds key z = false) : findZone key i zs = .none := by
  induction zs generalizing i with
  | nil => rfl
  | cons y rest ih =>
    unfold findZone
    rw [if_neg (by rw [none y List.mem_cons_self]; decide), ih fun z inside => none z (List.mem_cons_of_mem y inside)]

theorem lookupState_active {s : State} (free : s.locks.envelope = none) (active : s.env.suspended = false) :
    lookupState s = .active := by
  rw [lookupState, free, active]; rfl

theorem lookupState_ne_active {s : State} (inactive : s.locks.envelope ≠ none ∨ s.env.suspended = true) :
    lookupState s ≠ .active := by
  unfold lookupState tableState
  cases holder : s.locks.envelope with
  | none =>
    have suspended : s.env.suspended = true := inactive.resolve_left (not_not.2 holder)
    rw [suspended]; decide
  | some p => simp

theorem lookupZone_inactive {s : State} (key : Nat) (inactive : lookupState s ≠ .active) :
    lookupZone s key = defaultChoice s.env.default := by
  unfold lookupZone
  cases state : lookupState s with
  | active => exact absurd state inactive
  | edit => rfl
  | suspended => rfl

theorem lookupZone_active {s : State} (key : Nat) (active : lookupState s = .active) :
    lookupZone s key = (findZone key 0 s.env.zones.toList).getD (defaultChoice s.env.default) := by
  unfold lookupZone; rw [active]

theorem zoneHolds_iff (key : Nat) (z : ZoneEntry) : zoneHolds key z = true ↔ z.enabled = true ∧ z.start ≤ key ∧ key < z.stopAt := by
  simp [zoneHolds, and_assoc]

/-- Settles O28: the lookup and the validation as the first index that holds and the first that fails. -/
theorem zoneLookupTakesTheFirstEntryThatHolds : Obligations.ZoneLookupTakesTheFirstEntryThatHolds := by
  intro s key holds default fails
  have entry : ∀ i : Nat, s.env.zones.toList[i]? = s.env.zones[i]? := fun i => by simp
  have failing : ∀ i, zoneFailsAt s.env.zones.toList i ↔ fails i := fun i => by
    simp only [zoneFailsAt_iff, entry]; rfl
  have fault := zoneListFault_first s.env
  have missed : ∀ {j y}, ¬ holds j → s.env.zones[j]? = some y → zoneHolds key y = false := fun {j y} not at' =>
    Bool.eq_false_iff.2 fun h => not ⟨y, at', (zoneHolds_iff key y).1 h⟩
  refine ⟨fun i => ?_, fun inactive => lookupZone_inactive key (lookupState_ne_active inactive), fun free active => ⟨fun none => ?_,
    fun i z at' here first => ?_⟩, ?_⟩
  · simpa only [failing] using firstFrom_some_iff fault i
  · rw [lookupZone_active key (lookupState_active free active), findZone_none fun z inside => ?_]
    · rfl
    · obtain ⟨j, at'⟩ := List.mem_iff_getElem?.1 inside
      exact missed (none j) ((entry j).symm.trans at')
  · obtain ⟨y, same, holds'⟩ := here
    obtain rfl : z = y := by rw [at'] at same; simpa using same
    rw [lookupZone_active key (lookupState_active free active),
      findZone_of_first ((entry i).trans at') ((zoneHolds_iff key z).2 holds') fun j y below inside =>
        missed (first j below) ((entry j).symm.trans inside), Nat.zero_add]
    rfl
  · rw [firstFrom_none_iff fault]
    simp only [failing]
    constructor
    · intro sound i z at' on
      have ordered : ∀ (j : Nat) (y : ZoneEntry), s.env.zones[j]? = some y → y.enabled = true → y.start < y.stopAt := fun j y here enabled =>
        Nat.lt_of_not_le fun wrong => sound j ⟨y, here, enabled, .inl wrong⟩
      refine ⟨ordered i z at' on, fun j y below here enabled => ?_⟩
      by_contra overlap
      exact sound i ⟨z, at', on, .inr ⟨j, y, below, here, enabled, ordered j y here enabled, by omega, by omega⟩⟩
    · rintro apart i ⟨z, at', on, wrong⟩
      obtain ⟨ordered, before⟩ := apart i z at' on
      rcases wrong with wrong | ⟨j, y, below, here, enabled, -, low, high⟩
      · omega
      · rcases before j y below here enabled with left | right <;> omega

/-! ## Class and worst sector (O33) -/

theorem moreSevere_code (a b : SectorState) :
    sectorStateCode (moreSevere a b) = max (sectorStateCode a) (sectorStateCode b) := by
  unfold moreSevere; split <;> omega

theorem moreSevere_eq (a b : SectorState) : moreSevere a b = a ∨ moreSevere a b = b := by
  unfold moreSevere; split <;> simp

/-- The most severe of a state and the states of a list. -/
theorem foldl_moreSevere (rs : List SectorResult) (c : SectorState) :
    let worst := rs.foldl (fun c r => moreSevere c r.state) c
    sectorStateCode c ≤ sectorStateCode worst ∧ (∀ r ∈ rs, sectorStateCode r.state ≤ sectorStateCode worst) ∧
      (worst = c ∨ ∃ r ∈ rs, r.state = worst) := by
  induction rs generalizing c with
  | nil => exact ⟨le_rfl, by simp, .inl rfl⟩
  | cons r rest ih =>
    obtain ⟨low, others, one⟩ := ih (moreSevere c r.state)
    have code := moreSevere_code c r.state
    simp only [List.foldl_cons, List.mem_cons, forall_eq_or_imp, exists_eq_or_imp]
    refine ⟨by omega, ⟨by omega, others⟩, ?_⟩
    rcases one with here | ⟨q, inside, there⟩
    · rcases moreSevere_eq c r.state with first | second
      · exact .inl (here.trans first)
      · exact .inr (.inl (here.trans second).symm)
    · exact .inr (.inr ⟨q, inside, there⟩)

/-- The lowest clearance of the known sectors, with the lowest number of equal ones (R119). -/
def worstAmong (known : Nat → SectorResult → Prop) : Option (Nat × Int) → Prop
  | none => ∀ j q, ¬ known j q
  | some (k, g) => (∃ r, known k r ∧ r.clearance = g) ∧ ∀ j q, known j q → g < q.clearance ∨ (g = q.clearance ∧ k ≤ j)

theorem worstAmong_congr {known known' : Nat → SectorResult → Prop} {w : Option (Nat × Int)}
    (same : ∀ j q, known j q ↔ known' j q) : worstAmong known w ↔ worstAmong known' w := by
  have equal : known = known' := funext fun j => funext fun q => propext (same j q)
  rw [equal]

/-- The worst after one more sector, of number k. -/
def orWorse (k : Nat) (r : SectorResult) (best : Option (Nat × Int)) : Option (Nat × Int) :=
  if eligible r then
    match best with
    | none => some (k, r.clearance)
    | some (j, g) => if r.clearance < g then some (k, r.clearance) else some (j, g)
  else best

theorem worstFrom_cons (k : Nat) (r : SectorResult) (rs : List SectorResult) (best : Option (Nat × Int)) :
    worstFrom k (r :: rs) best = worstFrom (k + 1) rs (orWorse k r best) := by
  cases best <;> rfl

theorem worstAmong_next {k : Nat} {r : SectorResult} {known : Nat → SectorResult → Prop} {best : Option (Nat × Int)}
    (worst : worstAmong known best) (before : ∀ j q, known j q → j < k) :
    worstAmong (fun j q => known j q ∨ (j = k ∧ q = r ∧ eligible r = true)) (orWorse k r best) := by
  unfold orWorse
  by_cases counts : eligible r = true
  · rw [if_pos counts]
    cases best with
    | none =>
      refine ⟨⟨r, .inr ⟨rfl, rfl, counts⟩, rfl⟩, ?_⟩
      rintro j q (known | ⟨rfl, rfl, -⟩)
      · exact absurd known (worst j q)
      · exact .inr ⟨rfl, le_rfl⟩
    | some best =>
      obtain ⟨b, g⟩ := best
      obtain ⟨⟨x, found, clearance⟩, least⟩ := worst
      by_cases lower : r.clearance < g
      · simp only [if_pos lower]
        refine ⟨⟨r, .inr ⟨rfl, rfl, counts⟩, rfl⟩, ?_⟩
        rintro j q (known | ⟨rfl, rfl, -⟩)
        · rcases least j q known with far | ⟨equal, -⟩ <;> exact .inl (by omega)
        · exact .inr ⟨rfl, le_rfl⟩
      · simp only [if_neg lower]
        refine ⟨⟨x, .inl found, clearance⟩, ?_⟩
        rintro j q (known | ⟨rfl, rfl, -⟩)
        · exact least j q known
        · have number := before b x found
          rcases lt_or_ge g q.clearance with far | near
          · exact .inl far
          · exact .inr ⟨by omega, by omega⟩
  · rw [if_neg counts]
    exact (worstAmong_congr fun j q => ⟨.inl, fun h => h.resolve_right fun ⟨_, _, on⟩ => counts on⟩).1 worst

theorem worstFrom_worst {k : Nat} {rs : List SectorResult} {known : Nat → SectorResult → Prop} {best : Option (Nat × Int)}
    (worst : worstAmong known best) (before : ∀ j q, known j q → j < k) :
    worstAmong (fun j q => known j q ∨ ∃ i, rs[i]? = some q ∧ eligible q = true ∧ j = k + i) (worstFrom k rs best) := by
  induction rs generalizing k known best with
  | nil => exact (worstAmong_congr fun j q => by simp).1 worst
  | cons r rest ih =>
    have step := ih (k := k + 1) (worstAmong_next (r := r) worst before) (by
      rintro j q (known | ⟨rfl, -⟩)
      · exact (before j q known).trans (Nat.lt_succ_self k)
      · exact Nat.lt_succ_self j)
    rw [worstFrom_cons]
    refine (worstAmong_congr fun j q => ?_).1 step
    constructor
    · rintro ((known | ⟨rfl, rfl, on⟩) | ⟨i, at', on, rfl⟩)
      · exact .inl known
      · exact .inr ⟨0, rfl, on, rfl⟩
      · exact .inr ⟨i + 1, at', on, by omega⟩
    · rintro (known | ⟨i, at', on, rfl⟩)
      · exact .inl (.inl known)
      · cases i with
        | zero =>
          obtain rfl : r = q := by simpa using at'
          exact .inl (.inr ⟨rfl, rfl, on⟩)
        | succ i => exact .inr ⟨i, by simpa using at', on, by omega⟩

theorem worstOf_worst (rs : List SectorResult) :
    worstAmong (fun j q => rs[j]? = some q ∧ eligible q = true) (worstOf rs) := by
  have worst := worstFrom_worst (k := 0) (rs := rs) (known := fun _ _ => False) (best := none) (fun _ _ => id) (fun _ _ => False.elim)
  exact (worstAmong_congr fun j q => by simp).1 worst

theorem eligible_iff (r : SectorResult) : eligible r = true ↔ r.state ≠ .noData ∧ r.state ≠ .unchecked := by
  unfold eligible
  cases r.state <;> simp

/-- Settles O33: the class as a fold, the worst sector as the lowest of the eligible ones. -/
theorem classAndWorstSectorAreTheExtremes : Obligations.ClassAndWorstSectorAreTheExtremes := by
  intro rs
  obtain ⟨-, severe, one⟩ := foldl_moreSevere rs .noData
  have worst := worstOf_worst rs
  refine ⟨severe, one, ?_, fun k g found => ?_⟩
  · cases found : worstOf rs with
    | none =>
      rw [found] at worst
      refine iff_of_true rfl fun r inside => ?_
      obtain ⟨j, at'⟩ := List.mem_iff_getElem?.1 inside
      by_contra counts
      exact worst j r ⟨at', (eligible_iff r).2 (not_or.1 counts)⟩
    | some place =>
      obtain ⟨k, g⟩ := place
      rw [found] at worst
      obtain ⟨⟨r, ⟨at', counts⟩, -⟩, -⟩ := worst
      refine iff_of_false (by simp) fun none => ?_
      exact not_or.2 ((eligible_iff r).1 counts) (none r (List.mem_iff_getElem?.2 ⟨k, at'⟩))
  · rw [found] at worst
    obtain ⟨⟨r, ⟨at', counts⟩, clearance⟩, least⟩ := worst
    obtain ⟨data, checked⟩ := (eligible_iff r).1 counts
    exact ⟨r, at', clearance, data, checked, fun j q there data checked => least j q ⟨there, (eligible_iff q).2 ⟨data, checked⟩⟩⟩

end Sys2Proof.Machine

/-! PROOF. The requests of a store at rest and the rotation of its arbiter: O36 to O40. -/

namespace Sys2Proof.Machine

/-! ## A request served at once -/

/-- A retry event has no effect where no commit is refused or in work (R139). -/
theorem retryEvent_of_rest {s : State} (unblocked : s.pst.commitBlocked = false) (other : s.pst.holder ≠ .commitPath) :
    retryEvent s = s := by
  rw [retryEvent, if_neg (by simp [unblocked]), if_neg other]

/-- A frame changes its port alone, so it commutes with a change of the store. -/
theorem afterFrame_withStore (p : PortId) (t : ProfileStore) (s : State) :
    afterFrame p { s with pst := t } = { afterFrame p s with pst := t } := by cases p <;> rfl

theorem storeFree_afterFrame (p : PortId) (s : State) : storeFree (afterFrame p s) = storeFree s :=
  storeFree_congr (by rw [afterFrame_pst]) fun q => portWaiting_congr (afterFrame_slot p q s)

/-- The release after a request of a free store leaves it free (R149). -/
theorem releaseByPort_of_free {s : State} (waiting : s.pst.commitWaiting = false) (none : ∀ p, portWaiting s p = false) :
    releaseByPort s = { s with pst := { s.pst with holder := .none } } := by
  rw [releaseByPort, waiting, if_neg (by decide), grantNextPort, (nextWaiting_eq_none s).2 none]

/-- A request that finds the store free and changes the store alone: its answer and the store as it leaves it (R149, R150). -/
theorem storeRequest_served {p : PortId} {q : StoreRequest} {echo : Byte} {refusal : State → Option Status} {s : State}
    {t : ProfileStore} {r : Reply} (idle : (s.port p).slot = .idle) (free : storeFree s = true)
    (accepted : refusal (afterFrame p s) = none) (rests : t.holder = .none) (waiting : t.commitWaiting = false)
    (served : serveRequest p q (grantPort p (afterFrame p s)) =
      ({ afterFrame p s with pst := { t with holder := .port p, lastGranted := p } }, r)) :
    storeRequest p echo refusal q s = onlyAnswer p r.status echo r.payload { s with pst := { t with lastGranted := p } } := by
  obtain ⟨-, none⟩ := (storeFree_iff s).1 free
  have asked := storeRequest_asks idle echo (refusal := refusal) q accepted
  rw [askPort_free (by rw [storeFree_afterFrame, free]), grantAndServe, served] at asked
  have nobody : ∀ g, portWaiting (putAnswer p echo r
      { afterFrame p s with pst := { t with holder := .port p, lastGranted := p } }) g = false := fun g => by
    rw [portWaiting_putAnswer]
    split
    · rfl
    · exact (portWaiting_congr ((by cases g <;> rfl : _ = _).trans (afterFrame_slot p g s))).trans (none g)
  have same : ({ t with holder := .none, lastGranted := p } : ProfileStore) = { t with lastGranted := p } := by rw [← rests]
  refine asked.trans ((releaseByPort_of_free (by rw [putAnswer, setSlot_pst]; exact waiting) nobody).trans ?_)
  rw [onlyAnswer, afterFrame_withStore, ← same]
  cases p <;> rfl

/-- The cursor of a granted port moves, with no commit refused (R139). -/
theorem moveCursor_granted {p : PortId} {n : SeqNo} {s : State} (unblocked : s.pst.commitBlocked = false) :
    moveCursor p n (grantPort p s) = { s with pst :=
      { s.pst.setCursor p { s.pst.cursor p with position := n } with holder := .port p, lastGranted := p } } := by
  rw [moveCursor, retryEvent_of_rest]
  · cases p <;> rfl
  · cases p <;> exact unblocked
  · cases p <;> exact Holder.noConfusion

@[simp] theorem setCursor_holder_waiting (t : ProfileStore) (p : PortId) (c : Cursor) :
    (t.setCursor p c).holder = t.holder ∧ (t.setCursor p c).commitWaiting = t.commitWaiting := by cases p <;> exact ⟨rfl, rfl⟩

/-- A served request that moves the cursor of its port. -/
theorem storeRequest_cursor {p : PortId} {q : StoreRequest} {echo : Byte} {refusal : State → Option Status} {s : State}
    {c : Cursor} {st : Status} {payload : List Byte} (idle : (s.port p).slot = .idle) (free : storeFree s = true)
    (accepted : refusal (afterFrame p s) = none) (waiting : s.pst.commitWaiting = false)
    (served : serveRequest p q (grantPort p (afterFrame p s)) =
      ({ afterFrame p s with pst := { s.pst.setCursor p c with holder := .port p, lastGranted := p } },
        { status := st, payload := payload })) :
    storeRequest p echo refusal q s =
      onlyAnswer p st echo payload { s with pst := { s.pst.setCursor p c with lastGranted := p } } := by
  obtain ⟨holder, waits⟩ := setCursor_holder_waiting s.pst p c
  exact storeRequest_served idle free accepted (holder.trans ((storeFree_iff s).1 free).1) (waits.trans waiting) served

/-- A served request that leaves the store as it is. -/
theorem storeRequest_stands {p : PortId} {q : StoreRequest} {echo : Byte} {refusal : State → Option Status} {s : State} {r : Reply}
    (idle : (s.port p).slot = .idle) (free : storeFree s = true) (accepted : refusal (afterFrame p s) = none)
    (waiting : s.pst.commitWaiting = false)
    (served : serveRequest p q (grantPort p (afterFrame p s)) = (grantPort p (afterFrame p s), r)) :
    storeRequest p echo refusal q s =
      onlyAnswer p r.status echo r.payload { s with pst := { s.pst with lastGranted := p } } :=
  storeRequest_served idle free accepted ((storeFree_iff s).1 free).1 waiting
    (served.trans (by rw [grantPort, afterFrame_pst]))

/-! ## Reads (O36) -/

theorem bytesOf_one (n : Nat) : bytesOf 1 n = [BitVec.ofNat 8 n] := by simp [bytesOf]

/-- What a granted port reads is what stands from its cursor on. -/
theorem recordsAt_granted (p : PortId) (n : Nat) (s : State) :
    recordsAt p n (grantPort p s) = (s.pst.records.drop (seqOffset s.pst (s.pst.cursor p).position)).take n := by
  cases p <;> rfl

section
variable {p : PortId} {s : State} (unblocked : s.pst.commitBlocked = false)
include unblocked

theorem serveReadNext_held {r : RecordImage} (held : s.pst.records[seqOffset s.pst (s.pst.cursor p).position]? = some r) :
    serveReadNext p (grantPort p s) =
      ({ s with pst := { s.pst.setCursor p { s.pst.cursor p with position := (s.pst.cursor p).position + 1 } with
        holder := .port p, lastGranted := p } }, { status := .ok, payload := r }) := by
  have found : recordsAt p 1 (grantPort p s) = [r] := by
    rw [recordsAt_granted]
    obtain ⟨inside, rfl⟩ := List.getElem?_eq_some_iff.1 held
    rw [List.drop_eq_getElem_cons inside]; rfl
  have position : ((grantPort p s).pst.cursor p).position = (s.pst.cursor p).position := by cases p <;> rfl
  rw [serveReadNext, found]
  simp only [position, moveCursor_granted unblocked]

theorem serveReadBlock_held {n : Nat} (some : seqOffset s.pst (s.pst.cursor p).position < s.pst.records.length) (count : 1 ≤ n) :
    let got := (s.pst.records.drop (seqOffset s.pst (s.pst.cursor p).position)).take n
    serveReadBlock p n (grantPort p s) =
      ({ s with pst := { s.pst.setCursor p { s.pst.cursor p with
        position := (s.pst.cursor p).position + BitVec.ofNat 32 got.length } with holder := .port p, lastGranted := p } },
        { status := .ok, payload := BitVec.ofNat 8 got.length :: got.flatten }) := by
  intro got
  have found : recordsAt p n (grantPort p s) = got := recordsAt_granted p n s
  have more : got ≠ [] := by
    simp only [got, ne_eq, List.take_eq_nil_iff, List.drop_eq_nil_iff]
    omega
  have position : ((grantPort p s).pst.cursor p).position = (s.pst.cursor p).position := by cases p <;> rfl
  rw [serveReadBlock, found]
  cases shape : got with
  | nil => exact absurd shape more
  | cons x xs => simp only [position, moveCursor_granted unblocked, bytesOf_one, List.singleton_append]

end

theorem serveReadNext_empty {p : PortId} {s : State} (none : s.pst.records.length ≤ seqOffset s.pst (s.pst.cursor p).position) :
    serveReadNext p (grantPort p s) = (grantPort p s, bare .empty) := by
  rw [serveReadNext, recordsAt_granted, List.drop_eq_nil_of_le none, List.take_nil]

theorem serveReadBlock_empty {p : PortId} {n : Nat} {s : State}
    (none : s.pst.records.length ≤ seqOffset s.pst (s.pst.cursor p).position) :
    serveReadBlock p n (grantPort p s) = (grantPort p s, bare .empty) := by
  rw [serveReadBlock, recordsAt_granted, List.drop_eq_nil_of_le none, List.take_nil]

theorem countRefused_of_fits {count : Byte} (one : 1 ≤ count.toNat) (four : count.toNat ≤ 4) : countRefused count = none :=
  if_neg (by omega)

theorem countRefused_of_bad {count : Byte} (bad : count.toNat = 0 ∨ 4 < count.toNat) : countRefused count = some .badValue := if_pos bad

/-- Settles O36: a read at a store at rest, by what stands from the cursor on. -/
theorem readsAdvanceTheCursor : Obligations.ReadsAdvanceTheCursor := by
  intro p count s idle free unblocked waiting o got moved
  have pst : (afterFrame p s).pst = s.pst := afterFrame_pst p s
  have unblocked' : (afterFrame p s).pst.commitBlocked = false := by rwa [pst]
  refine ⟨fun r held => congrArg Host.Outcome.next ?_, fun none => congrArg Host.Outcome.next ?_,
    fun one four => ⟨fun none => congrArg Host.Outcome.next ?_, fun some => congrArg Host.Outcome.next ?_⟩,
    fun bad => congrArg Host.Outcome.next (storeRequest_refused idle _ _ (countRefused_of_bad bad))⟩
  · have served : serveRequest p .readNext (grantPort p (afterFrame p s)) = _ := serveReadNext_held unblocked' (by rwa [pst])
    rw [pst] at served
    exact storeRequest_cursor (refusal := fun _ => none) idle free rfl waiting served
  · exact storeRequest_stands (refusal := fun _ => Option.none) idle free rfl waiting (q := .readNext)
      (serveReadNext_empty (by rwa [pst]))
  · exact storeRequest_stands (refusal := fun _ => countRefused count) idle free (countRefused_of_fits one four) waiting
      (q := .readBlock count.toNat) (serveReadBlock_empty (by rwa [pst]))
  · have served : serveRequest p (.readBlock count.toNat) (grantPort p (afterFrame p s)) = _ :=
      serveReadBlock_held unblocked' (by rwa [pst]) one
    rw [pst] at served
    exact storeRequest_cursor (refusal := fun _ => countRefused count) idle free (countRefused_of_fits one four) waiting served

/-! ## Numbers against the store (O37) -/

theorem cursorTargetOf_other {x : Byte} (n : SeqNo) (big : 2 < x.toNat) : cursorTargetOf x n = none := by
  unfold cursorTargetOf
  split
  · omega
  · omega
  · omega
  · rfl

theorem execSetCursor_of_target {p : PortId} {x : Byte} {n : SeqNo} {target : CursorTarget} {s : State}
    (known : cursorTargetOf x n = some target) :
    exec (.setCursor p x n) s = .next (storeRequest p 0x23 (fun _ => none) (.setCursor target) s) := by
  change execSetCursor p x n s = _
  unfold execSetCursor
  rw [known]

theorem execSetCursor_of_none {p : PortId} {x : Byte} {n : SeqNo} {s : State} (idle : (s.port p).slot = .idle)
    (unknown : cursorTargetOf x n = none) : exec (.setCursor p x n) s = .next (onlyAnswer p .badValue 0x23 [] s) := by
  change execSetCursor p x n s = _
  unfold execSetCursor
  rw [unknown]
  exact congrArg Host.Outcome.next (plainRequest_unchanged (r := bare .badValue) idle 0x23 rfl)

/-- SET CURSOR at a store at rest puts the cursor at its goal (R145). -/
theorem setCursor_at_rest {p : PortId} {x : Byte} {n : SeqNo} {target : CursorTarget} {s : State} (idle : (s.port p).slot = .idle)
    (free : storeFree s = true) (unblocked : s.pst.commitBlocked = false) (waiting : s.pst.commitWaiting = false)
    (known : cursorTargetOf x n = some target) {goal : SeqNo} {st : Status} (goes : cursorGoal s.pst target = (goal, st)) :
    exec (.setCursor p x n) s = .next (onlyAnswer p st 0x23 (bytesOf 4 goal.toNat)
      { s with pst := { s.pst.setCursor p { s.pst.cursor p with position := goal } with lastGranted := p } }) := by
  have pst : (afterFrame p s).pst = s.pst := afterFrame_pst p s
  have moved := moveCursor_granted (p := p) (n := goal) (s := afterFrame p s) (by rwa [pst])
  rw [pst] at moved
  have there : cursorGoal (grantPort p (afterFrame p s)).pst target = (goal, st) := by
    rw [← goes, grantPort, pst]; rfl
  have served : serveRequest p (.setCursor target) (grantPort p (afterFrame p s)) =
      (moveCursor p goal (grantPort p (afterFrame p s)), { status := st, payload := bytesOf 4 goal.toNat }) := by
    rw [serveRequest, serveSetCursor, there]
  rw [moved] at served
  rw [execSetCursor_of_target known]
  exact congrArg Host.Outcome.next (storeRequest_cursor (refusal := fun _ => none) idle free rfl waiting served)

/-- PEEK RECORD at a store at rest answers by the place of its number (R144). -/
theorem peek_at_rest {p : PortId} {n : SeqNo} {s : State} {r : Reply} (idle : (s.port p).slot = .idle) (free : storeFree s = true)
    (waiting : s.pst.commitWaiting = false) (answers : ∀ u : State, u.pst.records = s.pst.records → placeOf u.pst n = placeOf s.pst n →
      servePeek n u = (u, r)) :
    exec (.peekRecord p n) s = .next (onlyAnswer p r.status 0x22 r.payload { s with pst := { s.pst with lastGranted := p } }) := by
  have pst : (afterFrame p s).pst = s.pst := afterFrame_pst p s
  exact congrArg Host.Outcome.next (storeRequest_stands (refusal := fun _ => none) idle free rfl waiting (q := .peek n)
    (answers _ (by rw [grantPort, pst]) (by rw [grantPort, pst]; rfl)))

/-- Settles O37: the four places of a number, for a peek and for a cursor. -/
theorem numbersArePlacedAgainstTheStore : Obligations.NumbersArePlacedAgainstTheStore := by
  intro p n s idle free unblocked waiting fill' oldest o granted at'
  have goes : ∀ {x target goal st}, cursorTargetOf x n = some target → cursorGoal s.pst target = (goal, st) →
      exec (.setCursor p x n) s = .next (onlyAnswer p st 0x23 (bytesOf 4 goal.toNat) (at' goal)) := fun known there =>
    setCursor_at_rest idle free unblocked waiting known there
  have number : cursorTargetOf 2 n = some (.number n) := rfl
  refine ⟨fun r held => ?_, fun next => ?_, fun out above => ?_, fun out below => ?_, goes (x := 0) rfl rfl, goes (x := 1) rfl rfl,
    fun x big => execSetCursor_of_none idle (cursorTargetOf_other n big)⟩
  · have inside : seqOffset s.pst n < fill s.pst := (List.getElem?_eq_some_iff.1 held).1
    have place := placeOf_held inside
    refine ⟨peek_at_rest (r := ⟨.ok, r⟩) idle free waiting fun u records same => ?_, goes number (by simp only [cursorGoal, place])⟩
    rw [servePeek, same, place, records]
    change (u, (⟨.ok, (s.pst.records[o]?).getD []⟩ : Reply)) = _
    rw [held]; rfl
  · have place := placeOf_next (t := s.pst) (n := n) next
    refine ⟨peek_at_rest (r := bare .notYet) idle free waiting fun u _ same => ?_, goes number (by simp only [cursorGoal, place])⟩
    rw [servePeek, same, place]
  · have place := placeOf_above (t := s.pst) (n := n) out above
    refine ⟨peek_at_rest (r := bare .notYet) idle free waiting fun u _ same => ?_, goes number (by simp only [cursorGoal, place])⟩
    rw [servePeek, same, place]
  · have place := placeOf_below (t := s.pst) (n := n) out (Nat.not_lt.2 below)
    refine ⟨peek_at_rest (r := bare .evicted) idle free waiting fun u _ same => ?_, goes number ?_⟩
    · rw [servePeek, same, place]
    · simp only [cursorGoal, place]; rfl

/-! ## Cursor mode and report (O38) -/

theorem cursorModeOf_other {x : Byte} (big : 1 < x.toNat) : cursorModeOf x = none := by
  unfold cursorModeOf
  split
  · omega
  · omega
  · rfl

theorem setCursorOf_afterFrame (p q : PortId) (c : Cursor) (s : State) :
    setCursorOf q c (afterFrame p s) = afterFrame p { s with pst := s.pst.setCursor q c } := by
  cases p <;> cases q <;> rfl

/-- Settles O38: a cursor that takes a mode with nothing to retry, and the report that clears the missed count. -/
theorem cursorModeAndReport : Obligations.CursorModeAndReport := by
  intro p mode m s idle
  have pst : (afterFrame p s).pst = s.pst := afterFrame_pst p s
  refine ⟨fun known unblocked other => congrArg Host.Outcome.next ?_, fun big => congrArg Host.Outcome.next ?_,
    congrArg Host.Outcome.next ?_⟩
  · have changes : changeMode p m (afterFrame p s) = setCursorOf p { s.pst.cursor p with mode := m } (afterFrame p s) := by
      rw [changeMode, pst]
      have rests : retryEvent (setCursorOf p { s.pst.cursor p with mode := m } (afterFrame p s)) =
          setCursorOf p { s.pst.cursor p with mode := m } (afterFrame p s) :=
        retryEvent_of_rest (by simpa [setCursorOf] using unblocked) (by simpa [setCursorOf] using other)
      simp only [rests, ite_self]
    have accepted : cursorModeRequest p mode (afterFrame p s) =
        (setCursorOf p { s.pst.cursor p with mode := m } (afterFrame p s), bare .ok) := by
      rw [cursorModeRequest, known]
      simp only [changes]
    rw [plainRequest_idle idle, accepted, setCursorOf_afterFrame]
    rfl
  · exact plainRequest_unchanged (r := bare .badValue) idle 0x24 (by rw [cursorModeRequest, cursorModeOf_other big])
  · rw [plainRequest_idle idle, readCursorOf, setCursorOf_afterFrame, pst]
    rfl

/-! ## Latch bits -/

theorem eventBit_lt (e : Event) : eventBit e < 32 := by cases e <;> decide

theorem eventBit_inj {e f : Event} : eventBit f = eventBit e ↔ f = e := by
  constructor
  · have place : ∀ e : Event, eventBit e = e.ctorIdx := fun e => by cases e <;> rfl
    intro same
    rw [place, place] at same
    rw [← Event.ofNat_ctorIdx f, same, Event.ofNat_ctorIdx]
  · rintro rfl; rfl

/-- Raising an event sets its own bit and leaves the others (R176). -/
theorem outstanding_latched (e f : Event) (m : MasterPort) :
    outstanding f { m with latch := latched e m.latch } = (decide (f = e) || outstanding f m) := by
  have place : (1#32 <<< eventBit e).getLsbD (eventBit f) = decide (f = e) := by
    have low := eventBit_lt f
    rw [← decide_eq_decide.2 (eventBit_inj (e := e) (f := f))]
    simp only [BitVec.getLsbD_shiftLeft, BitVec.getLsbD_one, low, decide_true, Bool.true_and]
    by_cases same : eventBit f = eventBit e
    · simp [same]
    · rw [decide_eq_false same]
      by_cases less : eventBit f < eventBit e
      · simp [less]
      · simp [show eventBit f - eventBit e ≠ 0 by omega]
  rw [outstanding, outstanding, latched, BitVec.getLsbD_or, place, Bool.or_comm]

theorem outstanding_raiseAll (e f : Event) (s : State) (p : PortId) :
    outstanding f ((raiseAll e s).port p) = (decide (f = e) || outstanding f (s.port p)) := by
  rw [raiseAll_port, outstanding_latched]

/-- An evaluation raises ADVICE_CHANGE alone (R164). -/
theorem outstanding_evaluateAdvice {f : Event} (other : f ≠ .adviceChange) (s : State) (p : PortId) :
    outstanding f ((evaluateAdvice s).port p) = outstanding f (s.port p) := by
  unfold evaluateAdvice
  dsimp only
  split
  · cases p <;> rfl
  · rw [outstanding_raiseAll, decide_eq_false other, Bool.false_or]
    cases p <;> rfl

/-! ## CLEAR STORE (O39) -/

/-- The store of CLEAR STORE before the advice is evaluated (R148). -/
def storeCleared (s : State) : State :=
  { s.mapPorts fun p m =>
      if 0 < availableTo s.pst (s.pst.cursor p) then { m with latch := latched .recordsMissed m.latch } else m with
    pst := { s.pst with records := [], cursor0 := clearCursor s.pst s.pst.cursor0, cursor1 := clearCursor s.pst s.pst.cursor1,
                        cursor2 := clearCursor s.pst s.pst.cursor2 } }

theorem serveClear_eq (s : State) : serveClear s = (retryEvent (evaluateAdvice (storeCleared s)), bare .ok) := rfl

theorem storeCleared_cursor (s : State) (q : PortId) : (storeCleared s).pst.cursor q = clearCursor s.pst (s.pst.cursor q) := by
  cases q <;> rfl

theorem storeCleared_slot (s : State) (q : PortId) : ((storeCleared s).port q).slot = (s.port q).slot := by
  have port : (storeCleared s).port q =
      if 0 < availableTo s.pst (s.pst.cursor q) then { s.port q with latch := latched .recordsMissed (s.port q).latch }
      else s.port q := by cases q <;> rfl
  rw [port]; split <;> rfl

theorem storeCleared_missed (s : State) (q : PortId) :
    outstanding .recordsMissed ((storeCleared s).port q) =
      (decide (0 < availableTo s.pst (s.pst.cursor q)) || outstanding .recordsMissed (s.port q)) := by
  have port : (storeCleared s).port q =
      if 0 < availableTo s.pst (s.pst.cursor q) then { s.port q with latch := latched .recordsMissed (s.port q).latch }
      else s.port q := by cases q <;> rfl
  rw [port]
  split
  · rename_i unread
    rw [outstanding_latched, decide_eq_true unread, decide_eq_true rfl]
  · rename_i read
    rw [decide_eq_false read, Bool.false_or]

theorem clearRefused_of_other {p : PortId} {s : State} (other : s.locks.setup ≠ some p) : clearRefused p s = some .lockRequired := by
  simp [clearRefused, holds, LockTable.holder, other]

theorem clearRefused_of_active {p : PortId} {s : State} (holder : s.locks.setup = some p) (active : s.slb.run ≠ .idle) :
    clearRefused p s = some .runActive := by
  simp [clearRefused, holds, LockTable.holder, holder, active]

theorem clearRefused_of_rest {p : PortId} {s : State} (holder : s.locks.setup = some p) (rests : s.slb.run = .idle) :
    clearRefused p s = none := by
  simp [clearRefused, holds, LockTable.holder, holder, rests]

/-- CLEAR STORE served at a store at rest: the cleared store, its answer, and a free store (R148, R150). -/
theorem grantAndServe_clear {p : PortId} {echo : Byte} {s : State} (free : storeFree s = true)
    (unblocked : s.pst.commitBlocked = false) (waiting : s.pst.commitWaiting = false) :
    let w := putAnswer p echo (bare .ok) (evaluateAdvice (storeCleared (grantPort p s)))
    grantAndServe p .clear echo s = { w with pst := { w.pst with holder := .none } } := by
  intro w
  obtain ⟨-, none⟩ := (storeFree_iff s).1 free
  have pst : (evaluateAdvice (storeCleared (grantPort p s))).pst = (storeCleared (grantPort p s)).pst := evaluateAdvice_pst _
  have rests : retryEvent (evaluateAdvice (storeCleared (grantPort p s))) = evaluateAdvice (storeCleared (grantPort p s)) :=
    retryEvent_of_rest (by rw [pst]; exact unblocked) (by rw [pst]; exact Holder.noConfusion)
  have nobody : ∀ q, portWaiting w q = false := fun q => by
    rw [portWaiting_putAnswer]
    split
    · rfl
    · refine (portWaiting_congr ?_).trans (none q)
      rw [evaluateAdvice_slot, storeCleared_slot]
      cases q <;> rfl
  have served : grantAndServe p .clear echo s = releaseByPort w := by
    rw [grantAndServe, serveRequest, serveClear_eq, rests]
  rw [served]
  exact releaseByPort_of_free (by rw [show w.pst = _ from setSlot_pst _ _ _, pst]; exact waiting) nobody

/-- Settles O39: the refusals, and the cleared store cursor by cursor. -/
theorem clearStoreEmptiesTheStore : Obligations.ClearStoreEmptiesTheStore := by
  intro p s idle
  have locks : (afterFrame p s).locks = s.locks := afterFrame_locks p s
  have slb : (afterFrame p s).slb = s.slb := afterFrame_slb p s
  have pst : (afterFrame p s).pst = s.pst := afterFrame_pst p s
  refine ⟨fun other => congrArg Host.Outcome.next ?_, fun holder active => congrArg Host.Outcome.next ?_,
    fun holder rests free unblocked waiting => ?_⟩
  · exact storeRequest_refused idle _ _ (clearRefused_of_other (by rwa [locks]))
  · exact storeRequest_refused idle _ _ (clearRefused_of_active (by rwa [locks]) (by rwa [slb]))
  · let c := storeCleared (grantPort p (afterFrame p s))
    let w := putAnswer p 0x26 (bare .ok) (evaluateAdvice c)
    have asked := storeRequest_asks idle 0x26 .clear (clearRefused_of_rest (p := p) (s := afterFrame p s) (by rwa [locks]) (by rwa [slb]))
    rw [askPort_free (by rwa [storeFree_afterFrame])] at asked
    have store : grantAndServe p .clear 0x26 (afterFrame p s) = { w with pst := { w.pst with holder := .none } } :=
      grantAndServe_clear (by rwa [storeFree_afterFrame]) (by rwa [pst]) (by rwa [pst])
    have cleared : w.pst = c.pst := (setSlot_pst _ _ _).trans (evaluateAdvice_pst c)
    have cursor : ∀ q, (grantAndServe p .clear 0x26 (afterFrame p s)).pst.cursor q = clearCursor s.pst (s.pst.cursor q) := fun q => by
      rw [store]
      refine (by cases q <;> rfl : _ = w.pst.cursor q).trans ?_
      rw [cleared, storeCleared_cursor, grantPort, pst]
      cases q <;> rfl
    have missed : ∀ q, outstanding .recordsMissed ((grantAndServe p .clear 0x26 (afterFrame p s)).port q) =
        (decide (0 < availableTo s.pst (s.pst.cursor q)) || outstanding .recordsMissed (s.port q)) := fun q => by
      rw [store]
      refine (by cases q <;> rfl : _ = outstanding .recordsMissed (w.port q)).trans ?_
      have frame : ((grantPort p (afterFrame p s)).port q).latch = (s.port q).latch :=
        (by cases q <;> rfl : _ = ((afterFrame p s).port q).latch).trans (afterFrame_latch p q s)
      have unread : availableTo (grantPort p (afterFrame p s)).pst ((grantPort p (afterFrame p s)).pst.cursor q) =
          availableTo s.pst (s.pst.cursor q) := by
        rw [grantPort, pst]
        cases q <;> rfl
      have answered : outstanding .recordsMissed (w.port q) = outstanding .recordsMissed ((evaluateAdvice c).port q) := by
        rw [outstanding, outstanding]
        exact congrArg (fun l : EventMask => l.getLsbD _) (setSlot_latch p q _ _)
      rw [answered, outstanding_evaluateAdvice (by decide), storeCleared_missed, unread, outstanding, outstanding, frame]
    have same := grantAndServe_same p .clear 0x26 (afterFrame p s)
    refine ⟨_, congrArg Host.Outcome.next asked, ?_, ?_, fun q => ⟨?_, fun unread => ?_, fun read => ?_⟩, ?_, ?_, ?_, ?_, ?_, ?_, ?_, ?_, ?_⟩
    · rw [store]; exact congrArg ProfileStore.records cleared
    · rw [store]
      exact (congrArg ProfileStore.nextSeq cleared).trans
        (congrArg ProfileStore.nextSeq pst : (afterFrame p s).pst.nextSeq = s.pst.nextSeq)
    · exact (cursor q).trans (by rw [clearCursor, addSat, Config.sat16]; rfl)
    · rw [missed, availableTo, decide_eq_true (by exact unread), Bool.true_or]
    · rw [missed, availableTo, decide_eq_false (by exact Nat.not_lt.2 (Nat.le_of_eq read)), Bool.false_or]
    · exact (same.slot p).trans (withAnswer_slot p _ _ _ _)
    · exact (grantAndServe_slb _ _ _ _).trans slb
    · exact same.chu.trans ((setSlot_chu _ _ _).trans (afterFrame_chu p s))
    · exact same.mku.trans ((setSlot_mku _ _ _).trans (afterFrame_mku p s))
    · exact same.env.trans ((setSlot_env _ _ _).trans (afterFrame_env p s))
    · exact same.head1.trans ((setSlot_head1 _ _ _).trans (afterFrame_head p .h1 s))
    · exact same.head2.trans ((setSlot_head2 _ _ _).trans (afterFrame_head p .h2 s))
    · exact same.locks.trans ((setSlot_locks _ _ _).trans locks)
    · exact same.setup.trans ((setSlot_setup _ _ _).trans (afterFrame_setup p s))

/-! ## The arbiter's rotation (O40) -/

/-- The turn of a port after the last one granted, in the order 0, 1, 2, 0 (R149). -/
def turnAfter (last q : PortId) : Nat := (portNumber q + 2 - portNumber last) % 3

/-- The first waiting port of an order in which the turns rise. -/
theorem find_turn {w : PortId → Bool} {turn : PortId → Nat} {a b c : PortId} (every : ∀ q, q = a ∨ q = b ∨ q = c)
    (first : turn a = 0) (second : turn b = 1) (third : turn c = 2) (p : PortId) :
    [a, b, c].find? w = some p ↔ w p = true ∧ ∀ q, w q = true → turn p ≤ turn q := by
  have apart : a ≠ b ∧ a ≠ c ∧ b ≠ c := ⟨fun h => by simp [h, second] at first, fun h => by simp [h, third] at first,
    fun h => by simp [h, third] at second⟩
  obtain ⟨ab, ac, bc⟩ := apart
  have least : (∀ q, w q = true → turn p ≤ turn q) ↔
      (w a = true → turn p ≤ 0) ∧ (w b = true → turn p ≤ 1) ∧ (w c = true → turn p ≤ 2) := by
    rw [← first, ← second, ← third]
    refine ⟨fun h => ⟨h a, h b, h c⟩, fun ⟨ha, hb, hc⟩ q => ?_⟩
    rcases every q with rfl | rfl | rfl <;> assumption
  rw [least]
  cases wa : w a <;> cases wb : w b <;> cases wc : w c <;> rcases every p with rfl | rfl | rfl <;>
    simp_all [List.find?, Ne.symm]

theorem nextWaiting_turn (s : State) (p : PortId) :
    nextWaiting s = some p ↔
      portWaiting s p = true ∧ ∀ q, portWaiting s q = true → turnAfter s.pst.lastGranted p ≤ turnAfter s.pst.lastGranted q := by
  unfold nextWaiting
  cases s.pst.lastGranted with
  | p0 => exact find_turn (fun q => by cases q <;> simp) rfl rfl rfl p
  | p1 => exact find_turn (fun q => by cases q <;> simp) rfl rfl rfl p
  | p2 => exact find_turn (fun q => by cases q <;> simp) rfl rfl rfl p

/-! ### A slot is no part of the store's work -/

theorem setSlot_setSlot (p : PortId) (x y : Slot) (s : State) : setSlot p y (setSlot p x s) = setSlot p y s := by cases p <;> rfl

theorem raiseAll_setSlot (e : Event) (p : PortId) (x : Slot) (s : State) :
    raiseAll e (setSlot p x s) = setSlot p x (raiseAll e s) := by cases p <;> rfl

theorem adviceOf_setSlot (p : PortId) (x : Slot) (s : State) : adviceOf (setSlot p x s) = adviceOf s := by cases p <;> rfl

theorem evaluateAdvice_setSlot (p : PortId) (x : Slot) (s : State) :
    evaluateAdvice (setSlot p x s) = setSlot p x (evaluateAdvice s) := by
  simp only [evaluateAdvice, adviceOf_setSlot, setSlot_adv]
  split
  · cases p <;> rfl
  · rw [← raiseAll_setSlot]
    cases p <;> rfl

theorem mapPorts_setSlot {g : PortId → MasterPort → MasterPort} (p : PortId) (x : Slot) (s : State)
    (commutes : ∀ q m, g q { m with slot := x } = { g q m with slot := x }) :
    (setSlot p x s).mapPorts g = setSlot p x (s.mapPorts g) := by
  cases p <;> simp only [State.mapPorts, setSlot, State.setPort, State.port, commutes]

theorem storeCleared_setSlot (p : PortId) (x : Slot) (s : State) :
    storeCleared (setSlot p x s) = setSlot p x (storeCleared s) := by
  have mapped := mapPorts_setSlot (g := fun q m =>
    if 0 < availableTo s.pst (s.pst.cursor q) then { m with latch := latched .recordsMissed m.latch } else m) p x s fun q m => by
      dsimp only; split <;> rfl
  have cleared := congrArg (fun t : State => { t with pst := (storeCleared s).pst }) mapped
  cases p <;> exact cleared

theorem retryEvent_setSlot {h : PortId} (p : PortId) (x : Slot) {s : State} (held : s.pst.holder = .port h) :
    retryEvent (setSlot p x s) = setSlot p x (retryEvent s) := by
  rw [retryEvent_of_port held, retryEvent_of_port (p := h) (by rwa [setSlot_pst])]
  cases p <;> rfl

theorem moveCursor_setSlot {h : PortId} (g p : PortId) (x : Slot) (n : SeqNo) {s : State} (held : s.pst.holder = .port h) :
    moveCursor g n (setSlot p x s) = setSlot p x (moveCursor g n s) := by
  have still : (setCursorOf g { s.pst.cursor g with position := n } s).pst.holder = .port h := by simpa [setCursorOf] using held
  rw [moveCursor, moveCursor, ← retryEvent_setSlot p x still]
  cases p <;> rfl

/-- The work of a granted port looks at no slot. -/
theorem serveRequest_setSlot {h : PortId} (g p : PortId) (q : StoreRequest) (x : Slot) {s : State} (held : s.pst.holder = .port h) :
    serveRequest g q (setSlot p x s) = (setSlot p x (serveRequest g q s).1, (serveRequest g q s).2) := by
  have pst : (setSlot p x s).pst = s.pst := setSlot_pst p x s
  cases q with
  | readNext =>
    have reads : recordsAt g 1 (setSlot p x s) = recordsAt g 1 s := by rw [recordsAt, pst]; rfl
    simp only [serveRequest, serveReadNext, reads, pst]
    cases recordsAt g 1 s with
    | nil => rfl
    | cons r rest => simp only [moveCursor_setSlot g p x _ held]
  | readBlock count =>
    have reads : recordsAt g count (setSlot p x s) = recordsAt g count s := by rw [recordsAt, pst]; rfl
    simp only [serveRequest, serveReadBlock, reads, pst]
    cases recordsAt g count s with
    | nil => rfl
    | cons r rest => simp only [moveCursor_setSlot g p x _ held]
  | peek n =>
    simp only [serveRequest, servePeek, pst]
    cases placeOf s.pst n <;> rfl
  | setCursor target => simp only [serveRequest, serveSetCursor, pst, moveCursor_setSlot g p x _ held]
  | clear =>
    have rests : (evaluateAdvice (storeCleared s)).pst.holder = .port h := by rw [evaluateAdvice_pst]; exact held
    simp only [serveRequest, serveClear_eq, storeCleared_setSlot, evaluateAdvice_setSlot, retryEvent_setSlot p x rests]

/-- A request that was granted the store at a release does what it does at a free store (R149, R150). -/
theorem grantAndServe_waited (p : PortId) (q : StoreRequest) (echo : Byte) (s : State) :
    grantAndServe p q echo
        { setSlot p (.working q echo) s with pst := { s.pst with holder := .port p, lastGranted := p } } =
      grantAndServe p q echo s := by
  have granted : grantPort p { setSlot p (.working q echo) s with pst := { s.pst with holder := .port p, lastGranted := p } } =
      setSlot p (.working q echo) (grantPort p s) := by cases p <;> rfl
  rw [grantAndServe, grantAndServe, granted, serveRequest_setSlot p p q _ (h := p) rfl]
  simp only [putAnswer, setSlot_setSlot]

/-- What a store request does at a held store, and at a free one with STORE_GRANT. -/
theorem storeRequest_waits {p : PortId} {q : StoreRequest} {echo : Byte} {refusal : State → Option Status} {s : State}
    (idle : (s.port p).slot = .idle) (accepted : refusal (afterFrame p s) = none) :
    let g := setSlot p (.working q echo) (afterFrame p s)
    (storeFree s = false → storeRequest p echo refusal q s = g) ∧
      (storeFree s = true → s.pst.commitWaiting = false →
        exec .storeGrant { g with pst := { s.pst with holder := .port p, lastGranted := p } } =
          .next (storeRequest p echo refusal q s)) := by
  have asked := storeRequest_asks idle echo q accepted
  have pst : (afterFrame p s).pst = s.pst := afterFrame_pst p s
  refine ⟨fun held => ?_, fun free waiting => ?_⟩
  · rw [asked, askPort_held (by rwa [storeFree_afterFrame])]
  · rw [asked, askPort_free (by rwa [storeFree_afterFrame]), ← grantAndServe_waited, pst]
    exact congrArg Host.Outcome.next (finishGrant_holder (by rfl) (by cases p <;> rfl))

/-- Settles O40: a request that waits and its service at STORE_GRANT, the rotation as the order of turns, and the grant itself. -/
theorem waitingPortsAreGrantedInRotation : Obligations.WaitingPortsAreGrantedInRotation := by
  refine ⟨fun p x n s idle => ?_, fun p s => ?_, fun p q echo s => ⟨fun holder working => ?_, fun none => congrArg Host.Outcome.next ?_⟩⟩
  · have waits : ∀ {c : Instr} {q : StoreRequest} {echo : Byte} {refusal : State → Option Status},
        exec c s = .next (storeRequest p echo refusal q s) → refusal (afterFrame p s) = none →
        (storeFree s = false → exec c s = .next (setSlot p (.working q echo) (afterFrame p s))) ∧
        (storeFree s = true → s.pst.commitWaiting = false →
          let g := setSlot p (.working q echo) (afterFrame p s)
          ∃ t, exec c s = .next t ∧ exec .storeGrant { g with pst := { s.pst with holder := .port p, lastGranted := p } } = .next t) := by
      intro c q echo refusal taken accepted
      obtain ⟨held, free⟩ := storeRequest_waits (q := q) (echo := echo) idle accepted
      exact ⟨fun busy => taken.trans (congrArg Host.Outcome.next (held busy)), fun rests waiting => ⟨_, taken, free rests waiting⟩⟩
    refine ⟨waits (refusal := fun _ => none) rfl rfl, waits (refusal := fun _ => none) rfl rfl, fun one four =>
      waits (refusal := fun _ => countRefused x) rfl (countRefused_of_fits one four), fun zero => ?_, fun one => ?_, fun two => ?_,
      fun holder rests => waits (refusal := clearRefused p) rfl
        (clearRefused_of_rest (by rwa [afterFrame_locks]) (by rwa [afterFrame_slb]))⟩
    · exact waits (execSetCursor_of_target (by rw [cursorTargetOf, zero]; rfl)) rfl
    · exact waits (execSetCursor_of_target (by rw [cursorTargetOf, one]; rfl)) rfl
    · exact waits (execSetCursor_of_target (by rw [cursorTargetOf, two]; rfl)) rfl
  · refine ⟨nextWaiting_turn s p, nextWaiting_eq_none s, fun waiting => ?_, fun rests => ⟨fun next => ?_, fun none => ?_⟩⟩
    · rw [releaseByPort, if_pos waiting]; exact ⟨rfl, rfl⟩
    · rw [releaseByPort, rests, if_neg (by decide), grantNextPort, next]; rfl
    · rw [releaseByPort, rests, if_neg (by decide), grantNextPort, none]
  · have served : exec .storeGrant s = .next (grantAndServe p q echo s) := by
      change Host.Outcome.next (grantWaiting s) = _
      rw [grantWaiting, holder]
      exact congrArg Host.Outcome.next (finishGrant_holder holder working)
    have granted : grantPort p s = { s with pst := { s.pst with lastGranted := p } } := by rw [grantPort, ← holder]
    rw [served, grantAndServe, granted]
    rfl
  · unfold grantWaiting
    cases holder : s.pst.holder with
    | port h => exact absurd holder (none h)
    | none => rfl
    | commitPath => rfl

end Sys2Proof.Machine

/-! PROOF. The commit of a slice and its record (O34), the refused commit (O35), and the stop latch and the advice (O41). -/

namespace Sys2Proof.Machine

/-! ## Fields of a list of bytes -/

/-- What stands between two parts of a list. -/
theorem drop_take_middle {α : Type} {whole front part back : List α} {k n : Nat} (split : whole = front ++ (part ++ back))
    (place : front.length = k) (size : part.length = n) : (whole.drop k).take n = part := by
  subst place size
  rw [split, List.drop_left, List.take_left]

/-- The part at a place of a list that is put together of parts of known sizes. -/
theorem field_of_flatten {α : Type} {whole : List α} {parts : List (List α)} {sizes : List Nat} (made : whole = parts.flatten)
    (lengths : parts.map List.length = sizes) (i : Nat) {part : List α} {k n : Nat} (found : parts[i]? = some part)
    (place : (sizes.take i).sum = k) (size : sizes[i]? = some n) : (whole.drop k).take n = part := by
  subst lengths
  obtain ⟨inside, rfl⟩ := List.getElem?_eq_some_iff.1 found
  refine drop_take_middle (front := (parts.take i).flatten) (back := (parts.drop (i + 1)).flatten) ?_ ?_ ?_
  · rw [made, ← List.flatten_cons, List.getElem_cons_drop, ← List.flatten_append, List.take_append_drop]
  · rw [List.length_flatten, List.map_take, place]
  · simpa [inside] using size

/-! ## The record of a slice -/

/-- The fields of a record in the order of Table 11-6, the sectors as the last 64. -/
def recordParts (l : Nat) (seq : SeqNo) (x : PendingSlice) : List (List Byte) :=
  let h := x.header
  [bytesOf 4 seq.toNat, bytesOf 2 h.run.toNat, bytesOf 2 h.segment.toNat, bytesOf 4 h.index, bytesOf 4 (h.index * l : Nat),
    bytesOf 2 l, bytesOf 2 (flagWord h.direction h.flags), bytesOf 1 (sectorStateCode x.cls),
    bytesOf 1 (x.worstSector.getD 255 : Nat), bytesOf 2 x.worstClearance, bytesOf 1 h.zone.index, bytesOf 1 h.zone.profile,
    bytesOf 2 h.zone.margin, bytesOf 1 h.zone.confirm, bytesOf 1 (qualityCode h.lowest), bytesOf 2 h.skipped,
    bytesOf 2 h.overruns, bytesOf 6 h.openTime.toNat, bytesOf 6 x.closeTime.toNat,
    bytesOf 1 (flagBit 0 h.part1.isSome + flagBit 1 h.part2.isSome : Nat), List.replicate 17 0, headPartBytes h.part1,
    headPartBytes h.part2] ++ x.sectors.toList.map sectorBytes

/-- The sizes of those fields. -/
def recordSizes : List Nat := [4, 2, 2, 4, 4, 2, 2, 1, 1, 2, 1, 1, 2, 1, 1, 2, 2, 6, 6, 1, 17, 16, 16] ++ List.replicate 64 6

theorem recordImage_eq (l : Nat) (n : SeqNo) (x : PendingSlice) : recordImage l n x = (recordParts l n x).flatten := by
  have sectors : ∀ front : List (List Byte), (front ++ x.sectors.toList.map sectorBytes).flatten =
      front.flatten ++ (x.sectors.toList.map sectorBytes).flatten := fun _ => List.flatten_append
  rw [recordParts, sectors]
  unfold recordImage
  simp only [List.flatten_cons, List.flatten_nil, List.append_assoc, List.nil_append]

theorem recordParts_sizes (l : Nat) (n : SeqNo) (x : PendingSlice) : (recordParts l n x).map List.length = recordSizes := by
  have sectors : (x.sectors.toList.map sectorBytes).map List.length = List.replicate 64 6 := by
    rw [List.map_map, List.eq_replicate_iff]
    refine ⟨by simp, fun b member => ?_⟩
    obtain ⟨r, -, rfl⟩ := List.mem_map.1 member
    exact sectorBytes_length r
  rw [recordParts, List.map_append, sectors, recordSizes]
  simp only [List.map_cons, List.map_nil, bytesOf_length, headPartBytes_length, List.length_replicate]

/-- Sector k in its place. -/
theorem recordImage_sector (l : Nat) (n : SeqNo) (x : PendingSlice) (k : Nat) (inside : k < 64) :
    ((recordImage l n x).drop (96 + 6 * k)).take 6 = sectorBytes x.sectors[k] := by
  refine field_of_flatten (recordImage_eq l n x) (recordParts_sizes l n x) (23 + k) ?_ ?_ ?_
  · rw [recordParts, List.getElem?_append_right (by simp only [List.length_cons, List.length_nil]; omega)]
    simp only [List.length_cons, List.length_nil, Nat.zero_add, Nat.add_sub_cancel_left, List.getElem?_map, Vector.getElem?_toList]
    rw [Vector.getElem?_eq_getElem inside]
    rfl
  · rw [recordSizes, show (23 : Nat) = ([4, 2, 2, 4, 4, 2, 2, 1, 1, 2, 1, 1, 2, 1, 1, 2, 2, 6, 6, 1, 17, 16, 16] : List Nat).length
      from rfl, List.take_length_add_append, List.take_replicate, Nat.min_eq_left inside.le, List.sum_append, List.sum_replicate,
      smul_eq_mul, Nat.mul_comm k]
    rfl
  · rw [recordSizes, List.getElem?_append_right (by simp only [List.length_cons, List.length_nil]; omega)]
    simp only [List.length_cons, List.length_nil, Nat.zero_add, Nat.add_sub_cancel_left, List.getElem?_replicate, inside, if_true]

/-! ## The events of a commit -/

/-- What a commit raises in the latch of a port (R76, R138, R140). -/
def commitRaises (x : PendingSlice) (rest : List PendingSlice) (s : State) (p : PortId) : Event → Bool
  | .recordsMissed => decide (fill s.pst = Config.storeCapacity ∧ (s.pst.cursor p).position = oldestSeq s.pst)
  | .dataAvailable => decide ((s.pst.cursor p).position = s.pst.nextSeq)
  | .recordInfringe => decide (x.cls = .infringe)
  | .recordWarn => decide (x.cls = .warn ∨ x.cls = .suspect)
  | .storeHighReached => decide (fill s.pst ≠ Config.storeCapacity ∧ fill s.pst + 1 = s.setup.storeHigh)
  | .runState => decide (s.slb.run = .draining ∧ s.slb.openSlices = [] ∧ rest = [])
  | _ => false

theorem outstanding_evictOldest (f : Event) (s : State) (p : PortId) :
    outstanding f ((evictOldest s).port p) =
      (decide (f = .recordsMissed ∧ (s.pst.cursor p).position = oldestSeq s.pst) || outstanding f (s.port p)) := by
  have port : (evictOldest s).port p =
      if (s.pst.cursor p).position = oldestSeq s.pst then { s.port p with latch := latched .recordsMissed (s.port p).latch }
      else s.port p := by cases p <;> rfl
  rw [port]
  split
  · rename_i stood
    rw [outstanding_latched]
    simp only [stood, and_true]
  · rename_i elsewhere
    simp only [elsewhere, and_false, decide_false, Bool.false_or]

theorem outstanding_raiseData (f : Event) (n : SeqNo) (s : State) (p : PortId) :
    outstanding f ((raiseData n s).port p) =
      (decide (f = .dataAvailable ∧ (s.pst.cursor p).position = n) || outstanding f (s.port p)) := by
  have port : (raiseData n s).port p =
      if (s.pst.cursor p).position = n then { s.port p with latch := latched .dataAvailable (s.port p).latch }
      else s.port p := by cases p <;> rfl
  rw [port]
  split
  · rename_i stood
    rw [outstanding_latched]
    simp only [stood, and_true]
  · rename_i elsewhere
    simp only [elsewhere, and_false, decide_false, Bool.false_or]

theorem outstanding_raiseClass (f : Event) (cls : SectorState) (s : State) (p : PortId) :
    outstanding f ((raiseClass cls s).port p) =
      (decide (f = .recordInfringe ∧ cls = .infringe ∨ f = .recordWarn ∧ (cls = .warn ∨ cls = .suspect)) ||
        outstanding f (s.port p)) := by
  cases cls <;> simp [raiseClass, outstanding_latched]

theorem outstanding_raiseHigh (f : Event) (before : Nat) (s : State) (p : PortId) :
    outstanding f ((raiseHigh before s).port p) =
      (decide (f = .storeHighReached ∧ before + 1 = fill s.pst ∧ fill s.pst = s.setup.storeHigh) || outstanding f (s.port p)) := by
  unfold raiseHigh
  split
  · rename_i reached
    rw [outstanding_raiseAll]
    simp only [reached, and_true]
  · rename_i other
    simp only [other, and_false, decide_false, Bool.false_or]

theorem outstanding_drainEnd {f : Event} (other : f ≠ .adviceChange) (s : State) (p : PortId) :
    outstanding f ((drainEnd s).port p) =
      (decide (f = .runState ∧ s.slb.run = .draining ∧ s.slb.openSlices = [] ∧ s.slb.pendingSlices = []) ||
        outstanding f (s.port p)) := by
  unfold drainEnd
  simp only [queueEmpty, Bool.and_eq_true, List.isEmpty_iff]
  split
  · rename_i last
    obtain ⟨draining, none, committed⟩ := last
    rw [setRun, if_neg (by rw [draining]; decide), outstanding_evaluateAdvice other, outstanding_raiseAll]
    simp only [draining, none, committed, and_true]
    cases p <;> rfl
  · rename_i more
    simp only [more, and_false, decide_false, Bool.false_or]

@[simp] theorem releaseByCommit_port (s : State) (p : PortId) : (releaseByCommit s).port p = s.port p := by
  have ended : (endCommitHold s).port p = s.port p := by
    rw [endCommitHold]
    rcases grantNextPort_cases { s with pst := { s.pst with testRefused := false, retryKept := false } } with
      ⟨q, -, same⟩ | ⟨-, same⟩ <;> rw [same] <;> cases p <;> rfl
  rcases releaseByCommit_cases s with ⟨-, same⟩ | ⟨-, asked⟩
  · rw [same, ended]
  · rw [asked, askCommit_port, ended]

/-- A cursor carried past the evicted record does not stand at the next number, nor did it before (R138). -/
theorem carryCursor_at_next {n : SeqNo} (c : Cursor) :
    (carryCursor (n - BitVec.ofNat 32 Config.storeCapacity) c).position = n ↔ c.position = n := by
  unfold carryCursor
  have far : Config.storeCapacity = 2048 := rfl
  rw [far]
  split
  · rename_i stood
    rw [stood]
    exact iff_of_false (by dsimp only; bv_omega) (by bv_omega)
  · rfl

/-- The state after the eviction of a commit, if it makes one (R138). -/
def evicted (s : State) : State := if fill s.pst = Config.storeCapacity then evictOldest s else s

theorem evicted_slb (s : State) : (evicted s).slb = s.slb := by unfold evicted; split <;> rfl
theorem evicted_setup (s : State) : (evicted s).setup = s.setup := by unfold evicted; split <;> rfl
theorem evicted_nextSeq (s : State) : (evicted s).pst.nextSeq = s.pst.nextSeq := by unfold evicted; split <;> rfl

theorem evicted_at_next (s : State) (p : PortId) :
    ((evicted s).pst.cursor p).position = s.pst.nextSeq ↔ (s.pst.cursor p).position = s.pst.nextSeq := by
  unfold evicted
  split
  · rename_i full
    rw [evictOldest_cursor, oldestSeq, full, carryCursor_at_next]
  · rfl

theorem outstanding_evicted (f : Event) (s : State) (p : PortId) :
    outstanding f ((evicted s).port p) =
      (decide (f = .recordsMissed ∧ fill s.pst = Config.storeCapacity ∧ (s.pst.cursor p).position = oldestSeq s.pst) ||
        outstanding f (s.port p)) := by
  unfold evicted
  split
  · rename_i full
    rw [outstanding_evictOldest]
    simp only [full, true_and]
  · rename_i room
    simp only [room, false_and, and_false, decide_false, Bool.false_or]

/-- The fill after a commit is one more than before exactly when nothing was evicted (R140). -/
theorem fill_evicted (s : State) :
    fill s.pst + 1 = fill (evicted s).pst + 1 ↔ fill s.pst ≠ Config.storeCapacity := by
  unfold evicted
  split
  · rename_i full
    rw [fill_evictOldest, full]
    decide
  · rename_i room
    simp only [room, ne_eq, not_false_eq_true]

/-- The events of a commit, beside ADVICE_CHANGE. -/
theorem outstanding_makeCommit {f : Event} (other : f ≠ .adviceChange) (x : PendingSlice) (rest : List PendingSlice) (s : State)
    (p : PortId) : outstanding f ((makeCommit x rest s).port p) = (commitRaises x rest s p f || outstanding f (s.port p)) := by
  have stored : ∀ t, (storeRecord x rest t).port p = t.port p := fun _ => by cases p <;> rfl
  have length : ∀ t, fill (storeRecord x rest t).pst = fill t.pst + 1 := fun t => by simp [fill, storeRecord]
  have queue : ∀ t, (storeRecord x rest t).slb = { t.slb with pendingSlices := rest } := fun _ => rfl
  have setup : ∀ t, (storeRecord x rest t).setup = t.setup := fun _ => rfl
  have data : ∀ t n, (raiseData n t).pst = t.pst ∧ (raiseData n t).slb = t.slb ∧ (raiseData n t).setup = t.setup :=
    fun _ _ => ⟨rfl, rfl, rfl⟩
  have class_setup : ∀ t, (raiseClass x.cls t).setup = t.setup := fun t => by cases x.cls <;> rfl
  have high : fill s.pst + 1 = fill (evicted s).pst + 1 ∧ fill (evicted s).pst + 1 = s.setup.storeHigh ↔
      fill s.pst ≠ Config.storeCapacity ∧ fill s.pst + 1 = s.setup.storeHigh := by
    rw [← fill_evicted]
    exact and_congr_right fun same => by rw [same]
  rw [makeCommit, ← evicted]
  simp only [releaseByCommit_port, outstanding_drainEnd other, outstanding_evaluateAdvice other, outstanding_raiseHigh,
    outstanding_raiseClass, stored, outstanding_raiseData, evaluateAdvice_slb, raiseHigh_slb, raiseClass_slb, raiseClass_pst, length,
    data, queue, class_setup, setup, evicted_slb, evicted_setup, evicted_at_next, outstanding_evicted, high]
  cases f <;> simp [commitRaises] at other ⊢

/-! ## The release at the end of a commit -/

theorem endCommitHold_pst (s : State) :
    (endCommitHold s).pst = match nextWaiting s with
      | none => { s.pst with testRefused := false, retryKept := false, holder := .none }
      | some q => { s.pst with testRefused := false, retryKept := false, holder := .port q, lastGranted := q } := by
  have same : nextWaiting { s with pst := { s.pst with testRefused := false, retryKept := false } } = nextWaiting s := rfl
  refine (grantNextPort_pst _).trans ?_
  rw [same] <;> cases nextWaiting s <;> rfl

/-- With a port waiting the commit path waits behind it, if it asks again (R149). -/
theorem releaseByCommit_some {s : State} {q : PortId} (next : nextWaiting s = some q) :
    (releaseByCommit s).pst.holder = .port q ∧ (releaseByCommit s).pst.lastGranted = q ∧
      (releaseByCommit s).pst.commitWaiting = if s.slb.pendingSlices = [] then s.pst.commitWaiting else true := by
  have ended := endCommitHold_pst s
  rw [next] at ended
  have held : storeFree (endCommitHold s) = false := by rw [storeFree, ended]; rfl
  rw [← endCommitHold_slb s]
  rcases releaseByCommit_cases s with ⟨empty, same⟩ | ⟨more, asked⟩
  · rw [same, if_pos empty, ended]
    exact ⟨rfl, rfl, rfl⟩
  · rw [asked, if_neg more, askCommit, held, if_neg Bool.false_ne_true, ended]
    exact ⟨rfl, rfl, rfl⟩

/-- With no port waiting the commit path is granted the store again, if it asks for it (R149). -/
theorem releaseByCommit_none {s : State} (next : nextWaiting s = none) :
    (s.slb.pendingSlices = [] → (releaseByCommit s).pst.holder = .none ∧ (releaseByCommit s).pst.commitWaiting = s.pst.commitWaiting) ∧
      (s.slb.pendingSlices ≠ [] → (releaseByCommit s).pst.holder = .commitPath ∧ (releaseByCommit s).pst.commitWaiting = false) := by
  have ended := endCommitHold_pst s
  rw [next] at ended
  have free : storeFree (endCommitHold s) = true := by
    rw [storeFree_iff]
    refine ⟨by rw [ended], fun p => ?_⟩
    rw [(endCommitHold_same s).waiting]
    exact (nextWaiting_eq_none s).1 next p
  rw [← endCommitHold_slb s]
  rcases releaseByCommit_cases s with ⟨empty, same⟩ | ⟨more, asked⟩
  · rw [same, ended]
    exact ⟨fun _ => ⟨rfl, rfl⟩, fun more => absurd empty more⟩
  · rw [asked, askCommit, if_pos free]
    exact ⟨fun empty => absurd empty more, fun _ => ⟨rfl, rfl⟩⟩

/-- The state of a commit before its release. -/
def committed (x : PendingSlice) (rest : List PendingSlice) (s : State) : State :=
  drainEnd (evaluateAdvice (raiseHigh (fill s.pst) (raiseClass x.cls (storeRecord x rest (raiseData s.pst.nextSeq (evicted s))))))

theorem makeCommit_eq (x : PendingSlice) (rest : List PendingSlice) (s : State) :
    makeCommit x rest s = releaseByCommit (committed x rest s) := rfl

theorem committed_pst (x : PendingSlice) (rest : List PendingSlice) (s : State) :
    (committed x rest s).pst = (storeRecord x rest (evicted s)).pst := by
  rw [committed, drainEnd_pst, evaluateAdvice_pst, raiseHigh_pst, raiseClass_pst]
  rfl

theorem evicted_arbiter (s : State) :
    (evicted s).pst.commitWaiting = s.pst.commitWaiting ∧ (evicted s).pst.lastGranted = s.pst.lastGranted := by
  unfold evicted; split <;> exact ⟨rfl, rfl⟩

theorem committed_waiting (x : PendingSlice) (rest : List PendingSlice) (s : State) :
    (committed x rest s).pst.commitWaiting = s.pst.commitWaiting ∧ nextWaiting (committed x rest s) = nextWaiting s := by
  obtain ⟨waiting, last⟩ := evicted_arbiter s
  rw [committed_pst]
  refine ⟨waiting, nextWaiting_congr (by rw [committed_pst]; exact last) fun p => ?_⟩
  have made := (makeCommit_same x rest s).waiting p
  rw [makeCommit_eq] at made
  rw [← made, portWaiting, portWaiting, releaseByCommit_port]

theorem committed_pending (x : PendingSlice) (rest : List PendingSlice) (s : State) :
    (committed x rest s).slb.pendingSlices = rest := by
  have made := congrArg SliceBuilder.pendingSlices (makeCommit_slb x rest s)
  rwa [makeCommit_eq, releaseByCommit_slb] at made

/-! ## O34 -/

/-- The records of a commit (R137, R138). -/
theorem makeCommit_records (x : PendingSlice) (rest : List PendingSlice) (s : State) :
    (makeCommit x rest s).pst.records =
        (if fill s.pst = Config.storeCapacity then s.pst.records.tail else s.pst.records) ++
          [recordImage s.setup.sliceLength s.pst.nextSeq x] ∧
      (makeCommit x rest s).pst.nextSeq = s.pst.nextSeq + 1 := by
  rw [records_of_contents (makeCommit_contents x rest s), nextSeq_of_contents (makeCommit_contents x rest s)]
  split <;> exact ⟨rfl, rfl⟩

/-- The cursors of a commit (R138). -/
theorem makeCommit_cursor (x : PendingSlice) (rest : List PendingSlice) (s : State) (p : PortId) :
    (makeCommit x rest s).pst.cursor p =
      if fill s.pst = Config.storeCapacity then carryCursor (oldestSeq s.pst) (s.pst.cursor p) else s.pst.cursor p := by
  rw [cursor_of_contents (makeCommit_contents x rest s)]
  have stored : ∀ t, (storeRecord x rest t).pst.cursor p = t.pst.cursor p := fun _ => by cases p <;> rfl
  rw [stored]
  split
  · exact evictOldest_cursor s p
  · rfl

/-- Settles O34: the commit by its records, its cursors, its events and its release, and the record by its parts. -/
theorem commitAppendsTheOldestPendingSlice : Obligations.CommitAppendsTheOldestPendingSlice := by
  refine ⟨?_, ?_⟩
  · intro x rest s oldest held allowed bound full drained kept
    have done : completeCommit s = makeCommit x rest s := by
      rw [completeCommit, if_pos held, oldest]
      dsimp only
      rw [allowed, if_neg Bool.false_ne_true]
    obtain ⟨records, nextSeq⟩ := makeCommit_records x rest s
    have slb := makeCommit_slb x rest s
    have others := makeCommit_same x rest s
    obtain ⟨waiting, next⟩ := committed_waiting x rest s
    have pending := committed_pending x rest s
    have event := fun p (f : Event) other => outstanding_makeCommit (f := f) other x rest s p
    have isFull : full = true ↔ fill s.pst = Config.storeCapacity := decide_eq_true_iff
    have first : fill s.pst = Config.storeCapacity → oldestSeq s.pst = s.pst.nextSeq - 2048 := fun all => by
      rw [oldestSeq, all]; rfl
    refine ⟨_, congrArg Host.Outcome.next done, ?_, nextSeq, by rw [slb], by rw [slb], fun p => ⟨?_, ?_, ?_, ?_, ?_, ?_, ?_, ?_, ?_⟩,
      ?_, ?_, ?_, ?_, others.chu, others.mku, others.env, others.scv, others.head1, others.head2, others.locks, others.signals,
      others.setup⟩
    · rw [records]
      congr 1
      exact if_congr isFull.symm rfl rfl
    · intro all stood
      rw [isFull] at all
      rw [makeCommit_cursor, if_pos all, event p _ (by decide), commitRaises, first all, carryCursor, if_pos stood,
        decide_eq_true ⟨all, stood⟩]
      exact ⟨rfl, rfl⟩
    · intro elsewhere
      have other : ¬(fill s.pst = Config.storeCapacity ∧ (s.pst.cursor p).position = oldestSeq s.pst) := fun ⟨all, stood⟩ => by
        rcases elsewhere with room | apart
        · rw [isFull.2 all] at room; exact Bool.noConfusion room
        · exact apart (stood.trans (first all))
      rw [makeCommit_cursor, event p _ (by decide), commitRaises, decide_eq_false other]
      refine ⟨?_, Bool.false_or _⟩
      split
      · rename_i all
        exact if_neg fun stood => other ⟨all, stood⟩
      · rfl
    · intro stood
      rw [event p _ (by decide), commitRaises, decide_eq_true stood]; rfl
    · intro apart
      rw [event p _ (by decide), commitRaises, decide_eq_false apart]; rfl
    · exact event p _ (by decide)
    · exact event p _ (by decide)
    · rw [event p _ (by decide), commitRaises, Bool.decide_and, decide_not]; rfl
    · exact event p _ (by decide)
    · intro f other
      simp only [List.mem_cons, List.not_mem_nil, or_false, not_or] at other
      obtain ⟨missed, data, infringe, warn, high, run, advice⟩ := other
      rw [event p f advice]
      cases f <;> simp [commitRaises] at missed data infringe warn high run ⊢
    · rw [slb]
      exact if_congr decide_eq_true_iff.symm rfl rfl
    · intro q waits
      rw [makeCommit_eq]
      obtain ⟨holder, last, asks⟩ := releaseByCommit_some (next.trans waits)
      rw [pending, waiting] at asks
      exact ⟨holder, last, asks⟩
    · intro nobody empty
      rw [makeCommit_eq, ← waiting]
      exact (releaseByCommit_none (next.trans nobody)).1 (pending.trans empty)
    · intro nobody more
      rw [makeCommit_eq]
      exact (releaseByCommit_none (next.trans nobody)).2 (by rwa [pending])
  · intro l n x h at' bit f part
    have field : ∀ (i : Nat) {bytes : List Byte} {k size : Nat}, (recordParts l n x)[i]? = some bytes →
        (recordSizes.take i).sum = k → recordSizes[i]? = some size → at' k size = bytes := fun i _ _ _ =>
      field_of_flatten (recordImage_eq l n x) (recordParts_sizes l n x) i
    have partBytes : ∀ q, headPartBytes q = part q := fun q => by cases q <;> rfl
    exact ⟨recordImage_length l n x, field 0 rfl rfl rfl, field 1 rfl rfl rfl, field 2 rfl rfl rfl, field 3 rfl rfl rfl,
      field 4 rfl rfl rfl, field 5 rfl rfl rfl, field 6 rfl rfl rfl, field 7 rfl rfl rfl, field 8 rfl rfl rfl, field 9 rfl rfl rfl,
      field 10 rfl rfl rfl, field 11 rfl rfl rfl, field 12 rfl rfl rfl, field 13 rfl rfl rfl, field 14 rfl rfl rfl,
      field 15 rfl rfl rfl, field 16 rfl rfl rfl, field 17 rfl rfl rfl, field 18 rfl rfl rfl, field 19 rfl rfl rfl,
      field 20 rfl rfl rfl, (field 21 rfl rfl rfl).trans (partBytes h.part1), (field 22 rfl rfl rfl).trans (partBytes h.part2),
      fun k inside => recordImage_sector l n x k inside⟩

/-! ## The retention test and the retry (O35) -/

/-- The retention test is of the records and the cursors as the grant finds them (R137). -/
theorem retained_iff (t : ProfileStore) :
    retained t = true ↔
      t.records.length = 2048 ∧ ∃ p, (t.cursor p).mode = .retain ∧ (t.cursor p).position = t.nextSeq - 2048 := by
  have cursors : (∃ p, (t.cursor p).mode = .retain ∧ (t.cursor p).position = oldestSeq t) ↔
      ∃ c ∈ [t.cursor0, t.cursor1, t.cursor2], c.mode = .retain ∧ c.position = oldestSeq t := by
    constructor
    · rintro ⟨p, stands⟩
      exact ⟨t.cursor p, by cases p <;> simp [ProfileStore.cursor], stands⟩
    · rintro ⟨c, member, stands⟩
      simp only [List.mem_cons, List.not_mem_nil, or_false] at member
      rcases member with rfl | rfl | rfl
      · exact ⟨.p0, stands⟩
      · exact ⟨.p1, stands⟩
      · exact ⟨.p2, stands⟩
  have test : retained t = true ↔ t.records.length = 2048 ∧
      ∃ p, (t.cursor p).mode = .retain ∧ (t.cursor p).position = oldestSeq t := by
    rw [cursors, retained, Bool.and_eq_true, decide_eq_true_iff, List.any_eq_true]
    simp only [Bool.and_eq_true, decide_eq_true_iff]
    rfl
  rw [test]
  refine and_congr_right fun full => ?_
  rw [oldestSeq, fill, full]
  rfl

theorem endCommitHold_eq (s : State) : endCommitHold s = { s with pst := (endCommitHold s).pst } := by
  rw [endCommitHold, grantNextPort]
  split <;> rfl

/-- The commit path has asked again: it is granted a free store and tests afresh, and otherwise it waits (R139). -/
def asksAgain (s t : State) : Prop :=
  t.pst.commitBlocked = (if storeFree s then false else true) ∧
    (storeFree s = true → t.pst.holder = .commitPath ∧ t.pst.commitWaiting = false ∧ (t.pst.testRefused = true ↔
      t.pst.records.length = 2048 ∧
        ∃ q, (t.pst.cursor q).mode = .retain ∧ (t.pst.cursor q).position = t.pst.nextSeq - 2048)) ∧
    (storeFree s = false → t.pst.commitWaiting = true)

theorem asksAgain_of_grant {s t u : State} (free : storeFree s = true) (granted : t.pst = (grantCommit u).pst) : asksAgain s t := by
  rw [asksAgain, granted, if_pos free]
  exact ⟨rfl, fun _ => ⟨rfl, rfl, retained_iff u.pst⟩, fun held => Bool.noConfusion (free.symm.trans held)⟩

theorem asksAgain_of_ask {s t u : State} (same : storeFree u = storeFree s) (blocked : u.pst.commitBlocked = true)
    (asked : t.pst = (askCommit u).pst) : asksAgain s t := by
  cases free : storeFree s with
  | true =>
    rw [askCommit, if_pos (same.trans free)] at asked
    exact asksAgain_of_grant free asked
  | false =>
    rw [askCommit, same, free, if_neg Bool.false_ne_true] at asked
    rw [asksAgain, asked, free]
    exact ⟨blocked, fun held => Bool.noConfusion held, fun _ => rfl⟩

/-- A retry event while the commit is blocked (R139). -/
theorem retryEvent_of_blocked {s : State} (blocked : s.pst.commitBlocked = true) (waiting : s.pst.commitWaiting = false) :
    retryEvent s = askCommit s := by
  rw [retryEvent, if_pos blocked, waiting, if_neg Bool.false_ne_true]

/-- A retry event while the commit path holds the store (R139). -/
theorem retryEvent_of_commit {s : State} (unblocked : s.pst.commitBlocked = false) (holder : s.pst.holder = .commitPath) :
    retryEvent s = { s with pst := { s.pst with retryKept := true } } := by
  rw [retryEvent, unblocked, if_neg Bool.false_ne_true, if_pos holder]

/-! ### The store requests -/

/-- A granted request that makes the commit path wait hands it the store at its release (R139, R149). -/
theorem grantAndServe_asks {p : PortId} {q : StoreRequest} {echo : Byte} {s a : State} (free : storeFree s = true)
    (waits : (serveRequest p q (grantPort p a)).1.pst.commitWaiting = true) : asksAgain s (grantAndServe p q echo a) := by
  have released := releaseByPort_cases (putAnswer p echo (serveRequest p q (grantPort p a)).2 (serveRequest p q (grantPort p a)).1)
  rcases released with ⟨-, same⟩ | ⟨rests, -⟩
  · exact asksAgain_of_grant free (congrArg State.pst same)
  · rw [putAnswer, setSlot_pst, waits] at rests
    exact Bool.noConfusion rests

/-- A granted request that does not, leaves the commit blocked (R139). -/
theorem grantAndServe_stays {p : PortId} {q : StoreRequest} {echo : Byte} {a : State} (blocked : a.pst.commitBlocked = true)
    (rests : (serveRequest p q (grantPort p a)).1.pst.commitWaiting = false) :
    (grantAndServe p q echo a).pst.commitBlocked = true ∧ (grantAndServe p q echo a).pst.commitWaiting = false := by
  obtain ⟨-, block, -⟩ := serveRequest_arbiter (p := p) (q := q) (s := grantPort p a) rfl
  have released := releaseByPort_cases (putAnswer p echo (serveRequest p q (grantPort p a)).2 (serveRequest p q (grantPort p a)).1)
  rw [grantAndServe]
  rcases released with ⟨waits, -⟩ | ⟨-, same⟩
  · rw [putAnswer, setSlot_pst, rests] at waits
    exact Bool.noConfusion waits
  · obtain ⟨-, -, -, waiting, blocks⟩ :=
      grantNextPort_rests (putAnswer p echo (serveRequest p q (grantPort p a)).2 (serveRequest p q (grantPort p a)).1)
    rw [same, waiting, blocks, putAnswer, setSlot_pst]
    exact ⟨block.trans blocked, rests⟩

/-- A move of the cursor of a granted port makes a blocked commit path wait (R139). -/
theorem moveCursor_waits {p : PortId} {n : SeqNo} {a : State} (blocked : a.pst.commitBlocked = true) :
    (moveCursor p n (grantPort p a)).pst.commitWaiting = true := by
  have held : (setCursorOf p { (grantPort p a).pst.cursor p with position := n } (grantPort p a)).pst.holder = .port p := by
    cases p <;> rfl
  have block : (setCursorOf p { (grantPort p a).pst.cursor p with position := n } (grantPort p a)).pst.commitBlocked = true :=
    (by cases p <;> rfl : _ = a.pst.commitBlocked).trans blocked
  rw [moveCursor, retryEvent_of_port held]
  dsimp only
  rw [block, Bool.or_true]

theorem serveClear_waits {p : PortId} {a : State} (blocked : a.pst.commitBlocked = true) :
    (serveClear (grantPort p a)).1.pst.commitWaiting = true := by
  have held : (evaluateAdvice (storeCleared (grantPort p a))).pst.holder = .port p := by rw [evaluateAdvice_pst]; rfl
  have block : (evaluateAdvice (storeCleared (grantPort p a))).pst.commitBlocked = true := by rw [evaluateAdvice_pst]; exact blocked
  rw [serveClear_eq]
  dsimp only
  rw [retryEvent_of_port held]
  dsimp only
  rw [block, Bool.or_true]

theorem recordsAt_ne_nil {p : PortId} {n : Nat} {a : State}
    (some : seqOffset a.pst (a.pst.cursor p).position < a.pst.records.length) (count : 1 ≤ n) : recordsAt p n (grantPort p a) ≠ [] := by
  rw [recordsAt_granted, ne_eq, List.take_eq_nil_iff, List.drop_eq_nil_iff]
  omega

/-- A read that returns a record makes a blocked commit path wait (R139). -/
theorem serveReadNext_waits {p : PortId} {a : State} (blocked : a.pst.commitBlocked = true)
    (some : seqOffset a.pst (a.pst.cursor p).position < a.pst.records.length) :
    (serveReadNext p (grantPort p a)).1.pst.commitWaiting = true := by
  unfold serveReadNext
  split
  · rename_i none
    exact absurd none (recordsAt_ne_nil some le_rfl)
  · exact moveCursor_waits blocked

theorem serveReadBlock_waits {p : PortId} {n : Nat} {a : State} (blocked : a.pst.commitBlocked = true)
    (some : seqOffset a.pst (a.pst.cursor p).position < a.pst.records.length) (count : 1 ≤ n) :
    (serveReadBlock p n (grantPort p a)).1.pst.commitWaiting = true := by
  unfold serveReadBlock
  split
  · rename_i none
    exact absurd none (recordsAt_ne_nil some count)
  · exact moveCursor_waits blocked

theorem servePeek_stands (n : SeqNo) (s : State) : (servePeek n s).1 = s := by
  unfold servePeek; split <;> rfl

/-! ### The other retry events -/

/-- The slots, as the Store Arbiter sees them, and the store of a port whose link goes DOWN, before its cursor is demoted. -/
theorem forcedRelease_store (p : PortId) (s : State) :
    (forcedRelease p s).pst = s.pst ∧ ∀ q, portWaiting (forcedRelease p s) q = portWaiting s q := by
  refine ⟨?_, fun q => portWaiting_congr ?_⟩
  · obtain ⟨e, m, -, same⟩ := forcedRelease_eq p s
    rw [same]
    split <;> rfl
  · rw [forcedRelease_port]
    split <;> rfl

/-- What a link that goes DOWN does to the store: its cursor is demoted (R152). -/
theorem linkDown_pst (p : PortId) (s : State) :
    (linkDown p s).pst = (demoteCursor p (forcedRelease p (s.setPort p { s.port p with link := .down }))).pst := rfl

theorem linkDown_stays {p : PortId} {s : State} (follows : (s.pst.cursor p).mode = .follow) : (linkDown p s).pst = s.pst := by
  have store : (forcedRelease p (s.setPort p { s.port p with link := .down })).pst = s.pst :=
    (forcedRelease_store _ _).1.trans (setPort_pst s p _)
  rw [linkDown_pst, demoteCursor, store, follows, if_neg (by decide), store]

/-- A demotion is a retry event of a store as it was but for the cursor (R152). -/
theorem linkDown_demotes {p : PortId} {s : State} (retains : (s.pst.cursor p).mode = .retain) :
    ∃ u, (linkDown p s).pst = (retryEvent u).pst ∧ u.pst = s.pst.setCursor p { s.pst.cursor p with mode := .follow } ∧
      storeFree u = storeFree s := by
  obtain ⟨pst, waiting⟩ := forcedRelease_store p (s.setPort p { s.port p with link := .down })
  rw [setPort_pst] at pst
  refine ⟨setCursorOf p { s.pst.cursor p with mode := .follow } (forcedRelease p (s.setPort p { s.port p with link := .down })), ?_, ?_, ?_⟩
  · rw [linkDown_pst, demoteCursor, pst, if_pos retains]
  · rw [setCursorOf, pst]
  · refine storeFree_congr ?_ fun q => ?_
    · rw [setCursorOf, pst]
      exact (setCursor_holder_waiting _ _ _).1
    · refine (portWaiting_congr (by cases q <;> rfl)).trans ((waiting q).trans ?_)
      exact portWaiting_congr (by cases p <;> cases q <;> rfl)

/-- A PORT RESET without a granted request is one retry event of a store as it was but for the cursor (R152, R183). -/
theorem resetPort_retries {p : PortId} {s : State} (other : s.pst.holder ≠ .port p ∨ portWaiting s p = false) :
    ∃ u, (resetPort p (afterFrame p s)).pst = (retryEvent u).pst ∧
      u.pst = s.pst.setCursor p { position := s.pst.nextSeq, mode := .follow, missed := 0 } ∧
      (portWaiting s p = false → storeFree u = storeFree s) := by
  have pst : (afterFrame p s).pst = s.pst := afterFrame_pst p s
  have slot : ∀ q, ((afterFrame p s).port q).slot = (s.port q).slot := fun q => afterFrame_slot p q s
  have work : finishGrant p (afterFrame p s) = afterFrame p s := by
    refine finishGrant_other (other.imp ?_ fun none => ?_)
    · rw [pst]; exact id
    · exact (portWaiting_congr (slot p)).trans none
  let a := (afterFrame p s).setPort p (clearPort ((afterFrame p s).port p))
  refine ⟨setCursorOf p { position := a.pst.nextSeq, mode := .follow, missed := 0 } a, ?_, ?_, fun none => ?_⟩
  · rw [resetPort, work, putAnswer, setSlot_pst, (forcedRelease_store _ _).1]
    rfl
  · cases p <;> rfl
  · refine storeFree_congr ?_ fun q => ?_
    · cases p <;> rfl
    · by_cases same : q = p
      · subst same
        rw [none]
        cases q <;> rfl
      · refine portWaiting_congr (Eq.trans ?_ (slot q))
        exact (by cases q <;> rfl : _ = (a.port q).slot).trans (congrArg MasterPort.slot ((setPort_port _ _ _ _).trans (if_neg same)))

/-- A change of mode retries a store as it was but for the cursor (R146). -/
theorem changeMode_retries {p : PortId} {m : CursorMode} {s : State} (changes : (s.pst.cursor p).mode ≠ m) :
    ∃ u, (changeMode p m (afterFrame p s)).pst = (retryEvent u).pst ∧
      u.pst = s.pst.setCursor p { s.pst.cursor p with mode := m } ∧ storeFree u = storeFree s := by
  have pst : (afterFrame p s).pst = s.pst := afterFrame_pst p s
  refine ⟨setCursorOf p { s.pst.cursor p with mode := m } (afterFrame p s), ?_, ?_, ?_⟩
  · rw [changeMode, pst, if_neg changes]
  · rw [setCursorOf, pst]
  · refine (storeFree_congr ?_ fun q => portWaiting_congr (by cases q <;> rfl)).trans (storeFree_afterFrame p s)
    rw [setCursorOf]
    exact (setCursor_holder_waiting _ _ _).1

theorem setCursor_commit (t : ProfileStore) (p : PortId) (c : Cursor) :
    (t.setCursor p c).commitBlocked = t.commitBlocked ∧ (t.setCursor p c).testRefused = t.testRefused := by
  cases p <;> exact ⟨rfl, rfl⟩

theorem cursorTargetOf_known {x : Byte} (n : SeqNo) (small : x.toNat ≤ 2) : ∃ target, cursorTargetOf x n = some target := by
  have codes : x.toNat = 0 ∨ x.toNat = 1 ∨ x.toNat = 2 := by omega
  unfold cursorTargetOf
  rcases codes with code | code | code <;> rw [code] <;> exact ⟨_, rfl⟩

theorem execPortReset_eq (p : PortId) (s : State) : exec (.portReset p) s = .next (resetPort p (afterFrame p s)) := by
  rw [← validFrame_beginTransaction]; rfl

/-- Settles O35: the refused commit, and each request by whether it makes the commit path ask again. -/
theorem refusedCommitWaitsForARetry : Obligations.RefusedCommitWaitsForARetry := by
  refine ⟨fun s => ⟨retained_iff s.pst, ?_⟩, ?_, ?_⟩
  · intro held pending refused u released
    have done : completeCommit s = refuseCommit s := by
      rw [completeCommit, if_pos held]
      cases queue : s.slb.pendingSlices with
      | nil => exact absurd queue pending
      | cons x rest => exact if_pos refused
    have ended : endCommitHold s = { s with pst := released } := by
      have store : (endCommitHold s).pst = released := by
        rw [endCommitHold_pst] <;> cases next : nextWaiting s <;> simp only [released, u, next]
      rw [endCommitHold_eq, store]
    have waits : ∀ q, portWaiting (endCommitHold s) q = portWaiting s q := (endCommitHold_same s).waiting
    refine ⟨fun none => congrArg Host.Outcome.next (done.trans ?_), fun kept => ⟨fun some => congrArg Host.Outcome.next (done.trans ?_),
      fun none => congrArg Host.Outcome.next (done.trans ?_)⟩⟩
    · rw [refuseCommit, none, ended]; rfl
    · have busy : storeFree (endCommitHold s) = false := by
        obtain ⟨q, next⟩ := Option.ne_none_iff_exists'.1 some
        rw [storeFree, endCommitHold_pst, next]; rfl
      rw [refuseCommit, kept, if_pos rfl, askCommit, busy, ended]; rfl
    · have free : storeFree (endCommitHold s) = true := by
        refine (storeFree_iff _).2 ⟨by rw [endCommitHold_pst, none], fun q => ?_⟩
        rw [waits]
        exact (nextWaiting_eq_none s).1 none q
      rw [refuseCommit, kept, if_pos rfl, askCommit, if_pos free, ended]
  · intro p x n s blocked waiting o idle asks stays
    have pst : (afterFrame p s).pst = s.pst := afterFrame_pst p s
    have block : (afterFrame p s).pst.commitBlocked = true := by rw [pst]; exact blocked
    have rest : (grantPort p (afterFrame p s)).pst.commitWaiting = false :=
      (congrArg ProfileStore.commitWaiting pst).trans waiting
    have asked : ∀ {c t}, exec c s = .next t → asksAgain s t → asks c := fun done again => ⟨_, done, again⟩
    have retried : ∀ {c t} {u : State}, exec c s = .next t → t.pst = (retryEvent u).pst → u.pst.commitBlocked = true →
        u.pst.commitWaiting = false → storeFree u = storeFree s → asks c := fun done same block rest free =>
      asked done (asksAgain_of_ask free block (same.trans (by rw [retryEvent_of_blocked block rest])))
    have cursor : ∀ q c, (s.pst.setCursor q c).commitBlocked = true ∧ (s.pst.setCursor q c).commitWaiting = false := fun q c =>
      ⟨(setCursor_commit _ _ _).1.trans blocked, (setCursor_holder_waiting _ _ _).2.trans waiting⟩
    refine ⟨fun idle free => ?_, fun m idle known => ⟨fun changes => ?_, fun same => ?_⟩, fun expired => ⟨fun retains => ?_,
      fun follows => ?_⟩, fun other others none => ?_⟩
    · have served : ∀ {echo refusal q}, refusal (afterFrame p s) = none →
          storeRequest p echo refusal q s = grantAndServe p q echo (afterFrame p s) := fun accepted =>
        (storeRequest_asks idle _ _ accepted).trans (askPort_free (by rwa [storeFree_afterFrame]) _ _)
      have serves : ∀ {c echo refusal q}, exec c s = .next (storeRequest p echo refusal q s) → refusal (afterFrame p s) = none →
          (serveRequest p q (grantPort p (afterFrame p s))).1.pst.commitWaiting = true → asks c := fun done accepted waits =>
        asked (done.trans (congrArg _ (served accepted))) (grantAndServe_asks free waits)
      have leaves : ∀ {c echo refusal q}, exec c s = .next (storeRequest p echo refusal q s) → refusal (afterFrame p s) = none →
          (serveRequest p q (grantPort p (afterFrame p s))).1.pst.commitWaiting = false → stays c := fun done accepted rests =>
        ⟨_, done.trans (congrArg _ (served accepted)), grantAndServe_stays block rests⟩
      have refused : ∀ {c st echo}, exec c s = .next (onlyAnswer p st echo [] s) → stays c := fun done =>
        ⟨_, done, by rw [onlyAnswer, withAnswer_pst, pst]; exact ⟨blocked, waiting⟩⟩
      have place : seqOffset (afterFrame p s).pst ((afterFrame p s).pst.cursor p).position = o := by rw [pst]; rfl
      refine ⟨fun some => ⟨?_, fun one four => ?_⟩, fun none => ⟨?_, ?_⟩, ?_, fun known => ?_, fun big => ?_, fun holder run => ?_⟩
      · refine serves (c := .readNext p) (refusal := fun _ => .none) rfl rfl (serveReadNext_waits block ?_)
        rw [place, pst]; exact some
      · refine serves (c := .readBlock p x) (refusal := fun _ => countRefused x) rfl (countRefused_of_fits one four)
          (serveReadBlock_waits block ?_ one)
        rw [place, pst]; exact some
      · refine leaves (c := .readNext p) (refusal := fun _ => .none) (q := .readNext) rfl rfl ?_
        rw [serveRequest, serveReadNext_empty (by rw [place, pst]; exact none)]
        exact rest
      · by_cases fits : 1 ≤ x.toNat ∧ x.toNat ≤ 4
        · refine leaves (c := .readBlock p x) (refusal := fun _ => countRefused x) (q := .readBlock x.toNat) rfl
            (countRefused_of_fits fits.1 fits.2) ?_
          rw [serveRequest, serveReadBlock_empty (by rw [place, pst]; exact none)]
          exact rest
        · exact refused (c := .readBlock p x) (congrArg Host.Outcome.next
            (storeRequest_refused idle 0x21 (.readBlock x.toNat) (refusal := fun _ => countRefused x) (countRefused_of_bad (by omega))))
      · refine leaves (c := .peekRecord p n) (refusal := fun _ => .none) (q := .peek n) rfl rfl ?_
        rw [serveRequest, servePeek_stands]
        exact rest
      · obtain ⟨target, known⟩ := cursorTargetOf_known n known
        exact serves (execSetCursor_of_target known) rfl (moveCursor_waits block)
      · exact refused (execSetCursor_of_none idle (cursorTargetOf_other n big))
      · refine serves (c := .clearStore p) (refusal := clearRefused p) rfl (clearRefused_of_rest ?_ ?_) (serveClear_waits block)
        · rw [afterFrame_locks]; exact holder
        · rw [afterFrame_slb]; exact run
    · obtain ⟨u, same, store, free⟩ := changeMode_retries changes
      refine retried (c := .setCursorMode p x) (congrArg Host.Outcome.next (plainRequest_idle idle 0x24 (cursorModeRequest p x)))
        ?_ (by rw [store]; exact (cursor _ _).1) (by rw [store]; exact (cursor _ _).2) free
      rw [withAnswer_pst, cursorModeRequest, known]
      exact same
    · refine ⟨_, congrArg Host.Outcome.next (plainRequest_idle idle 0x24 (cursorModeRequest p x)), ?_⟩
      have unchanged : (changeMode p m (afterFrame p s)).pst = s.pst.setCursor p { s.pst.cursor p with mode := m } := by
        rw [changeMode, pst, if_pos same, setCursorOf, pst]
      rw [withAnswer_pst, cursorModeRequest, known]
      dsimp only
      rw [unchanged]
      exact cursor _ _
    · obtain ⟨u, same, store, free⟩ := linkDown_demotes retains
      exact retried (c := .linkTimeout p) (congrArg Host.Outcome.next (if_pos expired)) same (by rw [store]; exact (cursor _ _).1)
        (by rw [store]; exact (cursor _ _).2) free
    · refine ⟨_, congrArg Host.Outcome.next (if_pos expired), ?_⟩
      rw [linkDown_stays follows]
      exact ⟨blocked, waiting⟩
    · obtain ⟨u, same, store, free⟩ := resetPort_retries (.inl other)
      exact retried (execPortReset_eq p s) same (by rw [store]; exact (cursor _ _).1) (by rw [store]; exact (cursor _ _).2) (free none)
  · intro p x m s held unblocked keeps
    have kept : ∀ {c t} {u : State} {k}, exec c s = .next t → t.pst = (retryEvent u).pst → u.pst = s.pst.setCursor p k → keeps c :=
      fun {c t u k} done same store => by
        have block : u.pst.commitBlocked = false := by rw [store, (setCursor_commit _ _ _).1, unblocked]
        have holder : u.pst.holder = .commitPath := by rw [store, (setCursor_holder_waiting _ _ _).1, held]
        rw [retryEvent_of_commit block holder] at same
        refine ⟨t, done, by rw [same], by rw [same]; exact holder, ?_⟩
        rw [same]
        dsimp only
        rw [store, (setCursor_commit _ _ _).2]
    refine ⟨?_, fun idle known changes => ?_, fun expired retains => ?_⟩
    · obtain ⟨u, same, store, -⟩ := resetPort_retries (p := p) (s := s) (.inl (by rw [held]; exact Holder.noConfusion))
      exact kept (execPortReset_eq p s) same store
    · obtain ⟨u, same, store, -⟩ := changeMode_retries changes
      refine kept (c := .setCursorMode p x) (congrArg Host.Outcome.next (plainRequest_idle idle 0x24 (cursorModeRequest p x))) ?_ store
      rw [withAnswer_pst, cursorModeRequest, known]
      exact same
    · obtain ⟨u, same, store, -⟩ := linkDown_demotes retains
      exact kept (c := .linkTimeout p) (congrArg Host.Outcome.next (if_pos expired)) same store

/-! ## The stop latch and the advice (O41) -/

/-- With the stop latch set the advice is STOP (R163, R164). -/
theorem adviceOf_of_latch {s : State} (latch : s.adv.stopLatch = true) :
    (adviceOf s).level = .stop ∧ (adviceOf s).vAdv = 0 ∧ (adviceOf s).latch = true := by
  have speed : (adviceOf s).vAdv = 0 := if_pos (by simp [causeLatch, latch])
  exact ⟨if_pos speed, speed, latch⟩

theorem evaluateAdvice_raises {s : State} (changes : (adviceOf s).level ≠ s.adv.advice.level) (p : PortId) :
    outstanding .adviceChange ((evaluateAdvice s).port p) = true := by
  rw [evaluateAdvice]
  dsimp only
  rw [if_neg changes]
  exact raiseAll_outstanding _ _ _

/-- After an evaluation the advice is that of the inputs as they then stand (R156). -/
theorem advice_of_evaluateAdvice (s : State) : (evaluateAdvice s).adv.advice = adviceOf (evaluateAdvice s) := by
  rw [evaluateAdvice_advice]
  exact (adviceOf_congr (sameInputs_of (by simp) (by simp) (by simp) (by simp) (by simp) (by simp))).symm

/-- What a stop demand that finds the latch clear does (R157). -/
structure StopDemand (s t : State) : Prop where
  latch : t.adv.stopLatch = true
  last : t.adv.lastStop = .set
  level : t.adv.advice.level = .stop
  speed : t.adv.advice.vAdv = 0
  cause : t.adv.advice.latch = true
  raised : ∀ p, outstanding .stopChange (t.port p) = true
  changed : s.adv.advice.level ≠ .stop → ∀ p, outstanding .adviceChange (t.port p) = true

theorem stopDemand_reportClass {cls : SectorState} {stop : Bool} {s : State}
    (demand : cls = .infringe ∧ stop = true ∧ s.setup.stopEnable = true ∧ s.adv.stopLatch = false) :
    StopDemand s (reportClass cls stop s) := by
  let u : State := raiseAll .stopChange { s with adv := { s.adv with stopLatch := true, lastStop := .set } }
  have set : reportClass cls stop s = evaluateAdvice u := if_pos demand
  obtain ⟨level, speed, cause⟩ := adviceOf_of_latch (s := u) rfl
  rw [set]
  exact
    { latch := by rw [evaluateAdvice_stopLatch]; rfl
      last := by rw [evaluateAdvice_lastStop]; rfl
      level := by rw [evaluateAdvice_advice]; exact level
      speed := by rw [evaluateAdvice_advice]; exact speed
      cause := by rw [evaluateAdvice_advice]; exact cause
      raised := fun p => evaluateAdvice_keeps _ _ _ (raiseAll_outstanding _ _ _)
      changed := fun other => evaluateAdvice_raises (by rw [level]; exact other.symm) }

/-- What the queueing of a closed slice leaves of the Advice Unit, and the advice that it evaluates. -/
theorem appendPending_advice (x : PendingSlice) (rest : List OpenSlice) (s : State) :
    (appendPending x rest s).adv.stopLatch = s.adv.stopLatch ∧ (appendPending x rest s).adv.lastStop = s.adv.lastStop ∧
      (appendPending x rest s).adv.advice = adviceOf (appendPending x rest s) ∧
      (∀ p, outstanding .stopChange ((appendPending x rest s).port p) = outstanding .stopChange (s.port p)) ∧
      ((appendPending x rest s).adv.advice.level ≠ s.adv.advice.level →
        ∀ p, outstanding .adviceChange ((appendPending x rest s).port p) = true) := by
  let q : State := { s with slb := { s.slb with
    openSlices := rest, pendingSlices := s.slb.pendingSlices ++ [x], lastClosed := some x.header.index } }
  have asked : appendPending x rest s = evaluateAdvice q ∨ appendPending x rest s = askCommit (evaluateAdvice q) := by
    unfold appendPending
    dsimp only
    split
    · exact .inr rfl
    · exact .inl rfl
  have port : ∀ p, (appendPending x rest s).port p = (evaluateAdvice q).port p := fun p => by
    rcases asked with same | same <;> rw [same]
    exact askCommit_port _ _
  have adv : (appendPending x rest s).adv = (evaluateAdvice q).adv := by
    rcases asked with same | same <;> rw [same]
    exact askCommit_adv _
  have advice : adviceOf (appendPending x rest s) = adviceOf (evaluateAdvice q) := by
    rcases asked with same | same <;> rw [same]
    exact adviceOf_congr (sameInputs_of (askCommit_same _).setup (askCommit_same _).head (askCommit_slb _)
      (by rw [(askCommit_same _).chu]) (askCommit_contents _) (by rw [askCommit_adv]))
  simp only [port, adv, advice]
  refine ⟨evaluateAdvice_stopLatch q, evaluateAdvice_lastStop q, advice_of_evaluateAdvice q, fun p => ?_, fun changes => ?_⟩
  · rw [outstanding_evaluateAdvice (by decide)]
    cases p <;> rfl
  · rw [evaluateAdvice_advice] at changes
    exact evaluateAdvice_raises changes

/-- The state of CLEAR STOP that finds the latch set (R158). -/
theorem clearStopLatch_set {p : PortId} {s : State} (latch : s.adv.stopLatch = true) :
    clearStopLatch p (afterFrame p s) =
      { (if (adviceOf { s with adv := { s.adv with stopLatch := false } }).level = s.adv.advice.level
          then raiseAll .stopChange (afterFrame p s)
          else raiseAll .adviceChange (raiseAll .stopChange (afterFrame p s))) with
        adv := { stopLatch := false, lastStop := .cleared p,
                 advice := adviceOf { s with adv := { s.adv with stopLatch := false } } } } := by
  have adv : (afterFrame p s).adv = s.adv := afterFrame_adv p s
  let u : State := raiseAll .stopChange { afterFrame p s with adv := { s.adv with stopLatch := false, lastStop := .cleared p } }
  have advice : adviceOf u = adviceOf { s with adv := { s.adv with stopLatch := false } } := by cases p <;> rfl
  rw [clearStopLatch, adv, if_pos latch]
  change evaluateAdvice u = _
  rw [evaluateAdvice]
  dsimp only
  rw [advice]
  have old : u.adv.advice = s.adv.advice := rfl
  rw [old]
  split <;> rfl

/-- Settles O41: a report, a close by the report of its class, CLEAR STOP, the fields of an evaluation, and the lines. -/
theorem stopLatchIsSetAndCleared : Obligations.StopLatchIsSetAndCleared := by
  refine ⟨fun cls stop s => ⟨fun demand => ?_, fun none => if_neg none⟩, ?_, ?_, ?_, ?_⟩
  · have set := stopDemand_reportClass demand
    refine ⟨set.latch, set.last, set.level, set.speed, set.cause, set.raised, set.changed, ?_, ?_⟩
    · exact reportClass_slb cls stop s
    · exact reportClass_pst cls stop s
  · intro kind x rest s front t demand
    let c := closedSlice kind s x
    let a := appendPending c rest s
    have closed : t = reportClass c.cls x.header.zone.stop a := closeRearmost_cons kind x rest s front
    obtain ⟨latch, last, current, stands, changes⟩ := appendPending_advice c rest s
    have enable : a.setup = s.setup := (sameButSlices (appendPending_slices c rest s)).setup
    have asks : (demand = true ∧ s.adv.stopLatch = false) ↔
        (c.cls = .infringe ∧ x.header.zone.stop = true ∧ a.setup.stopEnable = true ∧ a.adv.stopLatch = false) := by
      rw [enable, latch]
      simp only [demand, Bool.and_eq_true, decide_eq_true_eq, and_assoc]
      rfl
    rw [closed]
    refine ⟨?_, fun due => ?_, fun other => ?_⟩
    · rcases reportClass_cases c.cls x.header.zone.stop a with ⟨-, same⟩ | ⟨-, same⟩
      · rw [same]; exact advice_of_evaluateAdvice _
      · rw [same]; exact current
    · have set := stopDemand_reportClass (asks.1 due)
      refine ⟨set.latch, set.last, set.level, set.speed, set.cause, set.raised, fun moved p => ?_⟩
      by_cases level : a.adv.advice.level = s.adv.advice.level
      · exact set.changed (by rw [level]; exact moved) p
      · exact reportClass_keepsEvents _ _ _ _ _ (changes level p)
    · have same : reportClass c.cls x.header.zone.stop a = a := if_neg fun due => other (asks.2 due)
      rw [same]
      exact ⟨latch, last, stands⟩
  · intro p s idle
    have adv : (afterFrame p s).adv = s.adv := afterFrame_adv p s
    refine ⟨fun clear => congrArg Host.Outcome.next ?_, fun latch => congrArg Host.Outcome.next ?_⟩
    · refine plainRequest_unchanged (r := bare .ok) idle 0x14 ?_
      rw [clearStopRequest, clearStopLatch, adv, clear, if_neg Bool.false_ne_true]
    · refine (plainRequest_idle idle 0x14 (clearStopRequest p)).trans ?_
      rw [clearStopRequest, clearStopLatch_set latch]
      rfl
  · intro s a running locked period crawl stop base
    have noHead : a.noHead = (running && !locked .h1 && !locked .h2) := by
      change (running && !(locked .h1 || locked .h2)) = _
      rw [Bool.not_or, Bool.and_assoc]
    refine ⟨rfl, rfl, rfl, rfl, rfl, rfl, rfl, noHead, ?_, rfl⟩
    have same : base = baseSpeed s.setup.vCfg (coverageLimit s) := by
      change (match coverageLimit s with | none => s.setup.vCfg | some v => min s.setup.vCfg v) = _
      cases coverageLimit s <;> rfl
    rw [same]
    rfl
  · intro s
    refine ⟨Iff.rfl, ?_⟩
    unfold adviceLines
    cases s.adv.advice.level <;> rfl

end Sys2Proof.Machine

/-! PROOF. The transactions of a port, the judging of its frames, its signals and events, and the frames of Tables 11-4 and 11-5:
O42, O43, O46 and O60. -/

namespace Sys2Proof.Machine

/-! ## Polls and fetches (O42) -/

/-- The bits of a status byte (Table 11-2). -/
theorem status_bits (slot : Fin 3) (attend up : Bool) (port : Fin 3) :
    let b : Byte := BitVec.ofNat 8 (slot + 4 * flagCode attend + 8 * flagCode up + 16 * port + 128)
    b.toNat % 4 = slot ∧ b[2] = attend ∧ b[3] = up ∧ b.toNat / 16 % 4 = port ∧ b[6] = false ∧ b[7] = true := by
  revert slot attend up port
  decide

/-- The bits of the status byte of a port. -/
theorem statusByte_bits (s : State) (p : PortId) :
    (statusByte s p).toNat % 4 = slotCode (s.port p).slot ∧ (statusByte s p)[2] = attention s p ∧
      (statusByte s p)[3] = linkUp (s.port p) ∧ (statusByte s p).toNat / 16 % 4 = portNumber p ∧ (statusByte s p)[6] = false ∧
      (statusByte s p)[7] = true := by
  have slot : slotCode (s.port p).slot < 3 := by cases (s.port p).slot <;> simp [slotCode]
  have port : portNumber p < 3 := by cases p <;> decide
  exact status_bits ⟨_, slot⟩ (attention s p) (linkUp (s.port p)) ⟨_, port⟩

theorem linkUp_iff (m : MasterPort) : linkUp m = true ↔ ∃ n, m.link = .up n := by
  unfold linkUp
  cases m.link with
  | down => simp
  | up n => simp

theorem ready_iff (s : State) (p : PortId) : ready s p = true ↔ ∃ a, (s.port p).slot = .ready a := by
  unfold ready
  cases (s.port p).slot <;> simp

theorem attention_iff (s : State) (p : PortId) :
    attention s p = true ↔ (s.port p).latch &&& (s.port p).eventEnable ≠ 0 ∨ s.signals &&& (s.port p).signalEnable ≠ 0 := by
  rw [attention, Bool.or_eq_true, decide_eq_true_iff, decide_eq_true_iff]

/-- A fetch of a held answer (R170). -/
theorem fetchAnswer_ready {p : PortId} {n : Nat} {s : State} {a : Answer} (holds : (s.port p).slot = .ready a) :
    fetchAnswer p n s =
      if (answerFrame a).length ≤ n then setSlot p .idle (s.setPort p { s.port p with sdo := statusByte s p :: answerFrame a })
      else s.setPort p { s.port p with sdo := statusByte s p :: (answerFrame a).take n } := by
  have asserted : ready s p = true := (ready_iff s p).2 ⟨a, holds⟩
  have held : fetchedAnswer (s.port p).slot = a := by rw [holds]; rfl
  have removes : (ready s p && decide ((answerFrame a).length ≤ n)) = true ↔ (answerFrame a).length ≤ n := by
    rw [asserted, Bool.true_and, decide_eq_true_iff]
  rw [fetchAnswer, held]
  refine (if_congr removes rfl rfl).trans ?_
  split
  · rename_i whole
    rw [List.take_of_length_le whole]
  · rfl

/-- A fetch with no answer held (R170). -/
theorem fetchAnswer_none {p : PortId} {n : Nat} {s : State} (none : ready s p = false) :
    fetchAnswer p n s = s.setPort p { s.port p with
      sdo := statusByte s p :: (answerFrame { status := .noAnswer, echo := 0, payload := [] }).take n } := by
  have noAnswer : fetchedAnswer (s.port p).slot = { status := .noAnswer, echo := 0, payload := [] } := by
    unfold ready at none
    cases slot : (s.port p).slot with
    | idle => rfl
    | working q echo => rfl
    | ready a => rw [slot] at none; exact Bool.noConfusion none
  rw [fetchAnswer, noAnswer, none, Bool.false_and, if_neg Bool.false_ne_true]

/-- Settles O42: a fetch by what the slot holds, and the bits of the status byte. -/
theorem pollAndFetchClockOutTheSlot : Obligations.PollAndFetchClockOutTheSlot := by
  intro p n s out
  obtain ⟨slot, attend, link, port, low, high⟩ := statusByte_bits s p
  refine ⟨rfl, fun a holds => ⟨fun whole => congrArg Host.Outcome.next ?_, fun part => congrArg Host.Outcome.next ?_⟩,
    fun none => congrArg Host.Outcome.next (fetchAnswer_none none), ready_iff s p, ⟨?_, ?_, ?_, port, low, high⟩, rfl, fun x frame => ?_⟩
  · rw [fetchAnswer_ready holds, if_pos whole]
  · rw [fetchAnswer_ready holds, if_neg (Nat.not_le.2 part)]
  · rw [slot]
    cases (s.port p).slot <;> rfl
  · rw [attend]; exact attention_iff s p
  · rw [link]; exact linkUp_iff _
  · have code : ∀ k : Byte, x.toNat = k.toNat ↔ x = k := fun k => BitVec.toNat_inj
    exact if_congr (code 0x5A) rfl (if_congr (code 0xA5) rfl rfl)

/-! ## Signals and events (O46) -/

/-- Settles O46: each request by its act on the state after its frame. -/
theorem signalsAndEventsAreSetAndRead : Obligations.SignalsAndEventsAreSetAndRead := by
  intro p m em s idle a
  have signals : a.signals = s.signals := afterFrame_signals p s
  have latch : (a.port p).latch = (s.port p).latch := by cases p <;> rfl
  refine ⟨congrArg Host.Outcome.next ?_, congrArg Host.Outcome.next ?_, congrArg Host.Outcome.next ?_,
    congrArg Host.Outcome.next ?_, congrArg Host.Outcome.next ?_⟩
  · refine (plainRequest_idle idle 0x04 fun t => setSignalWord (t.signals ||| m) t).trans ?_
    rw [← signals]; rfl
  · refine (plainRequest_idle idle 0x05 fun t => setSignalWord (t.signals &&& ~~~m) t).trans ?_
    rw [← signals]; rfl
  · exact plainRequest_idle idle 0x06 (signalEnableRequest p m)
  · refine (plainRequest_idle idle 0x02 (readEventsRequest p)).trans ?_
    rw [← latch]; rfl
  · exact plainRequest_idle idle 0x03 (eventEnableRequest p em)

/-! ## Frames that are refused (O43) -/

/-- A frame of at least two bytes, by its first finding (R169). -/
theorem judgeFrame_cons (code len : Byte) (rest : List Byte) :
    judgeFrame (code :: len :: rest) =
      if (code :: len :: rest).length < 4 ∨ checkMatches (code :: len :: rest) = false then .frameError
      else if 250 < len.toNat ∨ (code :: len :: rest).length ≠ len.toNat + 4 then .badLengthFrame
      else match payloadLength code.toNat with
        | none => .unknownCommand
        | some l => if lengthFits l len.toNat then .taken else .badLengthCommand := rfl

theorem judgeFrame_unsound {frame : List Byte} (unsound : frame.length < 4 ∨ checkMatches frame = false) :
    judgeFrame frame = .frameError := by
  unfold judgeFrame
  split
  · exact if_pos unsound
  · rfl

/-- A frame with a sound check value and length. -/
theorem judgeFrame_sound {code len : Byte} {rest : List Byte} (long : 2 ≤ rest.length)
    (check : checkMatches (code :: len :: rest) = true) (small : len.toNat ≤ 250)
    (length : (code :: len :: rest).length = len.toNat + 4) :
    judgeFrame (code :: len :: rest) = match payloadLength code.toNat with
      | none => .unknownCommand
      | some l => if lengthFits l len.toNat then .taken else .badLengthCommand := by
  have sound : ¬((code :: len :: rest).length < 4 ∨ checkMatches (code :: len :: rest) = false) := by
    rw [check]
    simp only [List.length_cons, Bool.true_eq_false, or_false]
    omega
  have fits : ¬(250 < len.toNat ∨ (code :: len :: rest).length ≠ len.toNat + 4) := by
    rw [length]
    omega
  rw [judgeFrame_cons, if_neg sound, if_neg fits]

/-- A refused frame is answered if the slot is IDLE (R169). -/
theorem refuseFrame_of {p : PortId} {frame : List Byte} {s : State} {f : Finding} {st : Status} (found : judgeFrame frame = f)
    (answer : refusalStatus f = some st) :
    refuseFrame p frame s =
      let t := if findingValid f then afterFrame p s else s.setPort p { s.port p with sdo := [statusByte s p] }
      if (s.port p).slot = .idle then withAnswer p st (refusalEcho frame) [] t else t := by
  rw [refuseFrame, found, answer]
  dsimp only
  rw [validFrame_beginTransaction]
  exact if_congr (slotIdle_iff s p) rfl rfl

/-- Every request but PORT RESET is carried out in an IDLE slot alone (R169). -/
theorem exec_request {c : Instr} {p : PortId} {code : Nat} {payload : List Byte} (parts : requestParts c = some (p, code, payload))
    (other : c ≠ .portReset p) (s : State) : ∃ act, exec c s = .next (request p act s) := by
  cases c
  case setCursor q x n =>
    cases parts
    cases known : cursorTargetOf x n with
    | none => exact ⟨_, by change execSetCursor p x n s = _; unfold execSetCursor; rw [known]; rfl⟩
    | some target => exact ⟨_, execSetCursor_of_target known⟩
  case portReset q => cases parts; exact absurd rfl other
  all_goals cases parts
  all_goals exact ⟨_, rfl⟩

/-- Settles O43: the findings in order, and a busy slot. -/
theorem sendFramesAreJudgedBeforeTheirRequest : Obligations.SendFramesAreJudgedBeforeTheirRequest := by
  refine ⟨?_, fun c p code payload s parts busy other => ?_⟩
  · intro p frame s polled refused
    refine ⟨fun short => congrArg Host.Outcome.next ?_, fun long wrong => congrArg Host.Outcome.next ?_, ?_⟩
    · refine (refuseFrame_of (judgeFrame_unsound (.inl short)) rfl).trans ?_
      rw [refusalEcho, if_pos short]; rfl
    · refine (refuseFrame_of (judgeFrame_unsound (.inr wrong)) rfl).trans ?_
      rw [refusalEcho, if_neg (Nat.not_lt.2 long)]; rfl
    · rintro code len rest rfl long check
      have echo : refusalEcho (code :: len :: rest) = code := if_neg (by simp only [List.length_cons]; omega)
      have judged := judgeFrame_sound long check
      refine ⟨fun bad => congrArg Host.Outcome.next ?_, fun small length => ⟨fun unknown => congrArg Host.Outcome.next ?_,
        fun l known unfit => congrArg Host.Outcome.next ?_⟩⟩
      · have sound : ¬((code :: len :: rest).length < 4 ∨ checkMatches (code :: len :: rest) = false) := by
          rw [check]
          simp only [List.length_cons, Bool.true_eq_false, or_false]
          omega
        have found : judgeFrame (code :: len :: rest) = .badLengthFrame := by rw [judgeFrame_cons, if_neg sound, if_pos bad]
        refine (refuseFrame_of found rfl).trans ?_
        rw [echo]; rfl
      · have found : judgeFrame (code :: len :: rest) = .unknownCommand := by rw [judged small length, unknown]
        refine (refuseFrame_of found rfl).trans ?_
        rw [echo]; rfl
      · have found : judgeFrame (code :: len :: rest) = .badLengthCommand := by
          rw [judged small length, known]
          exact if_neg (by rw [unfit]; exact Bool.false_ne_true)
        refine (refuseFrame_of found rfl).trans ?_
        rw [echo]; rfl
  · obtain ⟨act, done⟩ := exec_request parts other s
    rw [done, request_busy busy]

/-! ## Request frames (O60) -/

/-- A number read where its bytes stand (R185). -/
theorem wordAt_bytesOf {w n : Nat} (m : BitVec w) (fits : 2 ^ w ≤ 256 ^ n) (front back : List Byte) :
    wordAt w front.length n (front ++ (bytesOf n m.toNat ++ back)) = m := by
  rw [wordAt, drop_take_middle rfl rfl (bytesOf_length n _), ofNat_natOf_bytesOf w n m fits]

theorem wordAt_bytesOf_end {w n : Nat} (m : BitVec w) (fits : 2 ^ w ≤ 256 ^ n) (front : List Byte) :
    wordAt w front.length n (front ++ bytesOf n m.toNat) = m := by
  have read := wordAt_bytesOf m fits front []
  rwa [List.append_nil] at read

/-- The body of a frame formed for a code and a payload stands in front of its check value. -/
theorem frameOf_eq (code : Nat) (payload : List Byte) :
    ∃ check : List Byte, check.length = 2 ∧
      frameOf code payload = BitVec.ofNat 8 code :: BitVec.ofNat 8 payload.length :: (payload ++ check) :=
  ⟨_, bytesOf_length 2 _, rfl⟩

/-- Every command code of Table 11-4 is a byte. -/
theorem payloadLength_byte {code : Nat} {l : PayloadLength} (known : payloadLength code = some l) : code < 256 := by
  unfold payloadLength at known
  split at known <;> cases known
  all_goals decide

/-- A frame formed for a command of Table 11-4 is read as the request of its code and payload. -/
theorem sendOf_frameOf {p : PortId} {code : Nat} {payload : List Byte} {l : PayloadLength} {c : Instr}
    (known : payloadLength code = some l) (fits : lengthFits l payload.length = true) (small : payload.length ≤ 250)
    (reads : requestOf p code payload = some c) : sendOf p (frameOf code payload) = c := by
  have byte := payloadLength_byte known
  have sound : checkMatches (frameOf code payload) = true := checkMatches_withCheck _
  obtain ⟨check, two, shape⟩ := frameOf_eq code payload
  have codeByte : (BitVec.ofNat 8 code).toNat = code := by rw [BitVec.toNat_ofNat]; omega
  have lenByte : (BitVec.ofNat 8 payload.length).toNat = payload.length := by rw [BitVec.toNat_ofNat]; omega
  rw [shape] at sound ⊢
  have judged := judgeFrame_sound (by rw [List.length_append]; omega) sound (by omega)
    (by rw [lenByte]; simp only [List.length_cons, List.length_append]; omega)
  rw [codeByte, known, lenByte] at judged
  have taken := judged.trans (if_pos fits)
  have between : payloadOf (BitVec.ofNat 8 code :: BitVec.ofNat 8 payload.length :: (payload ++ check)) = payload :=
    List.take_left' (by simp only [List.length_cons, List.length_append]; omega)
  rw [sendOf, taken]
  dsimp only
  rw [between, List.headD_cons, codeByte, reads, Option.getD_some]

/-- Whatever the payload of a known length, the command that it makes can arise (Table 11-4). -/
theorem requestOf_wellFormed {p : PortId} {code : Nat} {payload : List Byte} {l : PayloadLength}
    (known : payloadLength code = some l) (fits : lengthFits l payload.length = true) :
    ∃ c, requestOf p code payload = some c ∧ c.wellFormed = true := by
  by_cases write : code = 0x0C
  · subst write
    cases known
    refine ⟨_, rfl, ?_⟩
    simp only [lengthFits, Bool.and_eq_true, decide_eq_true_eq] at fits
    simp only [Instr.wellFormed, entryFits, List.length_drop, Bool.and_eq_true, decide_eq_true_eq]
    omega
  · unfold payloadLength at known
    split at known <;> cases known
    any_goals exact absurd rfl write
    all_goals exact ⟨_, rfl, rfl⟩

/-- The payload of a TABLE WRITE is read as it was written (R178). -/
theorem sendOf_tableWrite (p : PortId) (m : Byte) (entry : List Byte) (fits : entryFits entry = true) :
    sendOf p (frameOf 0x0C (m :: entry)) = .tableWrite p m entry := by
  simp only [entryFits, Bool.and_eq_true, decide_eq_true_eq] at fits
  obtain ⟨least, most⟩ := fits
  refine sendOf_frameOf (l := .tableWrite) rfl ?_ (by rw [List.length_cons]; omega) rfl
  simp only [lengthFits, List.length_cons, Bool.and_eq_true, decide_eq_true_eq]
  omega

/-- The frame of a request whose payload has its exact length. -/
theorem sendOf_exact {p : PortId} {code n : Nat} {payload : List Byte} {c : Instr}
    (known : payloadLength code = some (.exact n)) (length : payload.length = n) (small : n ≤ 250)
    (reads : requestOf p code payload = some c) : sendOf p (frameOf code payload) = c :=
  sendOf_frameOf known (decide_eq_true length) (length ▸ small) reads

/-- A frame that passes the five findings carries a payload of the length that its command takes (R169). -/
theorem judgeFrame_taken {frame : List Byte} (taken : judgeFrame frame = .taken) :
    ∃ l, payloadLength (frame.headD 0).toNat = some l ∧ lengthFits l (payloadOf frame).length = true := by
  unfold judgeFrame at taken
  split at taken
  · rename_i code len rest
    split at taken
    · cases taken
    · split at taken
      · cases taken
      · rename_i fits
        rw [not_or, not_not] at fits
        obtain ⟨-, length⟩ := fits
        have payload : (payloadOf (code :: len :: rest)).length = len.toNat := by
          rw [payloadOf, List.length_take, List.length_drop, length]
          omega
        split at taken
        · cases taken
        · rename_i l known
          split at taken
          · rename_i right
            exact ⟨l, known, by rw [payload]; exact right⟩
          · cases taken
  · cases taken

theorem sendOf_wellFormed (p : PortId) (frame : List Byte) : (sendOf p frame).wellFormed = true := by
  unfold sendOf
  split
  · rename_i taken
    obtain ⟨l, known, fits⟩ := judgeFrame_taken taken
    obtain ⟨c, reads, formed⟩ := requestOf_wellFormed (p := p) known fits
    rw [reads, Option.getD_some, formed]
  · rename_i refused
    exact decide_eq_true refused

theorem headCommandOf_wellFormed (h : HeadId) (frame : List Byte) : (headCommandOf h frame).wellFormed = true := by
  unfold headCommandOf
  split
  · rename_i passes
    split
    · rfl
    · rfl
    · rfl
    · rfl
    · rename_i train start block last
      cases frame with
      | nil => cases passes
      | cons type rest =>
        rw [headFramePasses, Bool.and_eq_true, decide_eq_true_eq] at passes
        obtain ⟨known, -⟩ := passes
        have unknown : headFrameLength type.toNat = none := by
          unfold headFrameLength
          split
          · rename_i code; exact absurd code train
          · rename_i code; exact absurd code start
          · rename_i code; exact absurd code block
          · rename_i code; exact absurd code last
          · rfl
        rw [unknown] at known
        cases known
  · rename_i fails
    rw [Bool.not_eq_true] at fails
    change (!headFramePasses frame) = true
    rw [fails]
    rfl

/-! ## Head link frames (O60) -/

/-- A frame formed with its check passes, if its type has that length (R1). -/
theorem headFramePasses_withCheck {type : Byte} {rest : List Byte} (length : headFrameLength type.toNat = some (rest.length + 3)) :
    headFramePasses (withCheck (type :: rest)) = true := by
  have sound : checkMatches (withCheck (type :: rest)) = true := checkMatches_withCheck _
  have size : (withCheck (type :: rest)).length = rest.length + 3 := by rw [withCheck_length, List.length_cons]
  have shape : withCheck (type :: rest) = type :: (rest ++ bytesOf 2 (checkValue (type :: rest)).toNat) := rfl
  rw [shape] at sound size ⊢
  rw [headFramePasses, size, length, decide_eq_true rfl, sound]
  rfl

theorem sampleBytes_length (x : Sample) : (sampleBytes x).length = 3 := by rw [sampleBytes, List.length_append, bytesOf_length]; rfl

/-- The parts of a SAMPLE_BLOCK frame and their sizes. -/
def blockParts (block : Byte) (samples : Vector Sample 64) (check : List Byte) : List (List Byte) :=
  [[0x11], [block]] ++ (samples.toList.map sampleBytes ++ [check])

theorem blockParts_sizes (block : Byte) (samples : Vector Sample 64) {check : List Byte} (two : check.length = 2) :
    (blockParts block samples check).map List.length = [1, 1] ++ (List.replicate 64 3 ++ [2]) := by
  have sizes : (samples.toList.map sampleBytes).map List.length = List.replicate 64 3 := by
    rw [List.map_map, List.eq_replicate_iff]
    refine ⟨by simp, fun b member => ?_⟩
    obtain ⟨x, -, rfl⟩ := List.mem_map.1 member
    exact sampleBytes_length x
  rw [blockParts, List.map_append, List.map_append, sizes]
  simp only [List.map_cons, List.map_nil, List.length_singleton, two]

theorem blockFrame_eq (block : Byte) (samples : Vector Sample 64) (check : List Byte) :
    (0x11 :: block :: (samples.toList.map sampleBytes).flatten) ++ check = (blockParts block samples check).flatten := by
  rw [blockParts, List.flatten_append, List.flatten_append]
  simp only [List.flatten_cons, List.flatten_nil, List.cons_append, List.nil_append, List.append_nil]

/-- Sample j is read where it was written (section 11.3). -/
theorem sampleAt_block (block : Byte) (samples : Vector Sample 64) {check : List Byte} (two : check.length = 2) (j : Nat)
    (inside : j < 64) :
    sampleAt ((0x11 :: block :: (samples.toList.map sampleBytes).flatten) ++ check) j = samples[j] := by
  let frame := (0x11 :: block :: (samples.toList.map sampleBytes).flatten) ++ check
  have three : (frame.drop (2 + 3 * j)).take 3 = sampleBytes samples[j] := by
    refine field_of_flatten (blockFrame_eq block samples check) (blockParts_sizes block samples two) (2 + j) ?_ ?_ ?_
    · rw [blockParts, List.getElem?_append_right (by simp only [List.length_cons, List.length_nil]; omega),
        List.getElem?_append_left (by simpa using inside)]
      simp only [List.length_cons, List.length_nil, Nat.zero_add, Nat.reduceAdd, Nat.add_sub_cancel_left, List.getElem?_map,
        Vector.getElem?_toList]
      rw [Vector.getElem?_eq_getElem inside]
      rfl
    · rw [show (2 : Nat) = ([1, 1] : List Nat).length from rfl, List.take_length_add_append,
        List.take_append_of_le_length (by simpa using inside.le), List.take_replicate, Nat.min_eq_left inside.le, List.sum_append,
        List.sum_replicate, smul_eq_mul, Nat.mul_comm j]
      rfl
    · rw [List.getElem?_append_right (by simp only [List.length_cons, List.length_nil]; omega),
        List.getElem?_append_left (by simpa using inside)]
      simp only [List.length_cons, List.length_nil, Nat.zero_add, Nat.reduceAdd, Nat.add_sub_cancel_left, List.getElem?_replicate,
        inside, if_true]
  have range : wordAt 16 (2 + 3 * j) 2 frame = samples[j].range := by
    have front : (frame.drop (2 + 3 * j)).take 2 = bytesOf 2 samples[j].range.toNat := by
      have nested : (frame.drop (2 + 3 * j)).take 2 = ((frame.drop (2 + 3 * j)).take 3).take 2 := by rw [List.take_take]; rfl
      rw [nested, three, sampleBytes, List.take_left' (bytesOf_length 2 _)]
    rw [wordAt, front, ofNat_natOf_bytesOf 16 2 _ (by decide)]
  have intensity : byteAt (4 + 3 * j) frame = samples[j].intensity := by
    have there : frame[4 + 3 * j]? = ((frame.drop (2 + 3 * j)).take 3)[2]? := by
      rw [List.getElem?_take, if_pos (by decide), List.getElem?_drop, show 2 + 3 * j + 2 = 4 + 3 * j by omega]
    rw [byteAt, List.getD_eq_getElem?_getD, there, three]
    rfl
  exact (congrArg₂ Sample.mk range intensity :)

theorem sendOf_request {i : Instr} {p : PortId} {frame : List Byte} (formed : i.wellFormed = true)
    (framed : requestFrame i = some (p, frame)) : sendOf p frame = readsAs i := by
  have four : (2 : Nat) ^ 32 ≤ 256 ^ 4 := by decide
  have two : (2 : Nat) ^ 16 ≤ 256 ^ 2 := by decide
  have word4 : ∀ m : BitVec 32, wordAt 32 0 4 (bytesOf 4 m.toNat) = m := fun m => wordAt_bytesOf_end m four []
  have word2 : ∀ m : BitVec 16, wordAt 16 0 2 (bytesOf 2 m.toNat) = m := fun m => wordAt_bytesOf_end m two []
  have word4' : ∀ (b : Byte) (m : BitVec 32), wordAt 32 1 4 (b :: bytesOf 4 m.toNat) = m := fun b m => wordAt_bytesOf_end m four [b]
  have word2' : ∀ (b : Byte) (m : BitVec 16), wordAt 16 1 2 (b :: bytesOf 2 m.toNat) = m := fun b m => wordAt_bytesOf_end m two [b]
  have reads : ∀ {α : Type} (f : α → Instr) {x y : α}, x = y → some (f x) = some (f y) := fun f _ _ same => by rw [same]
  cases i <;> cases framed
  case setEventEnable.refl p m => exact sendOf_exact rfl (bytesOf_length _ _) (by decide) (reads (.setEventEnable p) (word4 m))
  case setSignals.refl p m => exact sendOf_exact rfl (bytesOf_length _ _) (by decide) (reads (.setSignals p) (word2 m))
  case clearSignals.refl p m => exact sendOf_exact rfl (bytesOf_length _ _) (by decide) (reads (.clearSignals p) (word2 m))
  case setSignalEnable.refl p m =>
    exact sendOf_exact rfl (bytesOf_length _ _) (by decide) (reads (.setSignalEnable p) (word2 m))
  case setChainage.refl p m => exact sendOf_exact rfl (bytesOf_length _ _) (by decide) (reads (.setChainage p) (word4 m))
  case peekRecord.refl p m => exact sendOf_exact rfl (bytesOf_length _ _) (by decide) (reads (.peekRecord p) (word4 m))
  case tablePoint.refl p t m =>
    exact sendOf_exact (n := 3) rfl (by rw [List.length_cons, bytesOf_length]) (by decide)
      (reads (.tablePoint p t) (word2' t m))
  case setCursor.refl p x m =>
    exact sendOf_exact (n := 5) rfl (by rw [List.length_cons, bytesOf_length]) (by decide)
      (reads (.setCursor p x) (word4' x m))
  case tableWrite.refl p m e => exact sendOf_tableWrite p m e formed
  case tableWriteHeadEnable.refl p m e => exact sendOf_tableWrite p m e formed
  case tableWriteEncK.refl p m e => exact sendOf_tableWrite p m e formed
  case tableWriteLinkTimeout.refl p m e => exact sendOf_tableWrite p m e formed
  case tableWriteMarkers.refl p m e => exact sendOf_tableWrite p m e formed
  case tableWriteZones.refl p m e => exact sendOf_tableWrite p m e formed
  case tableWriteProfiles.refl p m e => exact sendOf_tableWrite p m e formed
  case tableWriteAdviceInput.refl p m e => exact sendOf_tableWrite p m e formed
  all_goals exact sendOf_exact rfl rfl (by decide) rfl

theorem headCommandOf_frame {i : Instr} {h : HeadId} {frame : List Byte} (framed : headFrame i = some (h, frame)) :
    headCommandOf h frame = i := by
  have two : (2 : Nat) ^ 16 ≤ 256 ^ 2 := by decide
  cases i <;> cases framed
  case trainAck.refl h rate =>
    rw [headCommandOf, if_pos (headFramePasses_withCheck rfl)]
    rfl
  case revStart.refl h n rate =>
    let frame := withCheck (0x10 :: (bytesOf 2 n.toNat ++ [rate]))
    have passes : headFramePasses frame = true := headFramePasses_withCheck (by rw [List.length_append, bytesOf_length]; rfl)
    have number : wordAt 16 1 2 frame = n := wordAt_bytesOf n two [0x10] (rate :: bytesOf 2 (checkValue _).toNat)
    exact (if_pos passes).trans (congrArg (fun x => Instr.revStart h x rate) number)
  case sampleBlock.refl h block samples =>
    let body := 0x11 :: block :: (samples.toList.map sampleBytes).flatten
    have size : (samples.toList.map sampleBytes).flatten.length = 192 := by
      rw [List.length_flatten, List.map_map]
      simp [Function.comp_def, sampleBytes_length]
    have passes : headFramePasses (withCheck body) = true := headFramePasses_withCheck (by rw [List.length_cons, size]; rfl)
    have read : (Vector.ofFn fun j : Fin 64 => sampleAt (withCheck body) j) = samples := by
      ext j inside : 1
      rw [Vector.getElem_ofFn]
      exact sampleAt_block block samples (bytesOf_length 2 _) j inside
    exact (if_pos passes).trans (congrArg (Instr.sampleBlock h block) read)
  case revEnd.refl h n count =>
    let frame := withCheck (0x12 :: (bytesOf 2 n.toNat ++ bytesOf 2 count.toNat))
    have passes : headFramePasses frame = true :=
      headFramePasses_withCheck (by rw [List.length_append, bytesOf_length, bytesOf_length]; rfl)
    have number : wordAt 16 1 2 frame = n := wordAt_bytesOf n two [0x12] (bytesOf 2 count.toNat ++ bytesOf 2 (checkValue _).toNat)
    have samples : wordAt 16 3 2 frame = count :=
      wordAt_bytesOf count two (0x12 :: bytesOf 2 n.toNat) (bytesOf 2 (checkValue _).toNat)
    exact (if_pos passes).trans (congrArg₂ (Instr.revEnd h) number samples)

/-- Settles O60: the frames of the requests, the frames of a head, and what is read from any bytes. -/
theorem framesAreReadAsTheirCommands : Obligations.FramesAreReadAsTheirCommands :=
  ⟨fun _ _ _ formed framed => sendOf_request formed framed, fun _ _ _ framed => headCommandOf_frame framed,
    fun p h frame => ⟨sendOf_wellFormed p frame, headCommandOf_wellFormed h frame⟩⟩

end Sys2Proof.Machine

/-! PROOF. Forced releases, the link timer, the locks and the resets: O44, O45, O51 to O53. -/

namespace Sys2Proof.Machine

/-! ## A forced release in the owning blocks (R61, R131) -/

theorem forceLock_other {p : PortId} {k : Lock} {s : State} (other : s.locks.holder k ≠ some p) : forceLock p k s = s := if_neg other

/-- A forced release of one lock leaves the holders of the others. -/
theorem forceLock_holder {p : PortId} {j k : Lock} (other : j ≠ k) (s : State) :
    (forceLock p k s).locks.holder j = s.locks.holder j := by
  obtain ⟨e, m, -, same⟩ := forceLock_eq p k s
  rw [same]
  split
  · rw [setHolder_holder, if_neg other]
  · rfl

theorem suspendZones_env (s : State) :
    (suspendZones s).env = { s.env with suspended := s.env.suspended || (zoneListFault s.env).isSome } := by
  unfold suspendZones
  split
  · rename_i fault
    rw [fault, Bool.or_true]
  · rename_i sound
    rw [Bool.not_eq_true] at sound
    rw [sound, Bool.or_false]

theorem suspendMarkers_mku (s : State) :
    (suspendMarkers s).mku = { s.mku with suspended := s.mku.suspended || (markerTableFault s.mku).isSome } := by
  unfold suspendMarkers
  split
  · rename_i fault
    rw [fault, Bool.or_true]
  · rename_i sound
    rw [Bool.not_eq_true] at sound
    rw [sound, Bool.or_false]

theorem forceLock_env_other {p : PortId} {k : Lock} (other : k ≠ .envelope) (s : State) : (forceLock p k s).env = s.env := by
  unfold forceLock
  split
  · cases k with
    | envelope => exact absurd rfl other
    | markers =>
      obtain ⟨n, same⟩ := recomputeNext_eq (suspendMarkers (setLock .markers none s))
      rw [reportForced, same, suspendMarkers]
      split <;> rfl
    | setup => rfl
  · rfl

theorem forceLock_mku_other {p : PortId} {k : Lock} (other : k ≠ .markers) (s : State) : (forceLock p k s).mku = s.mku := by
  unfold forceLock
  split
  · cases k with
    | envelope =>
      rw [reportForced, suspendZones]
      split <;> rfl
    | markers => exact absurd rfl other
    | setup => rfl
  · rfl

/-- A forced release, lock by lock; the report of LOCK_FORCED leaves the blocks (R174). -/
theorem forcedRelease_blocks (p : PortId) (s : State) :
    (forcedRelease p s).env = (forceLock p .envelope s).env ∧
      (forcedRelease p s).mku = (forceLock p .markers (forceLock p .envelope s)).mku := by
  unfold forcedRelease
  split
  · refine ⟨?_, ?_⟩
    · rw [raiseAll_env, forceLock_env_other (by decide), forceLock_env_other (by decide)]
    · rw [raiseAll_mku, forceLock_mku_other (by decide)]
  · rename_i none
    have free : ∀ k, s.locks.holder k ≠ some p := fun k held => none ((holdsAny_iff s p).2 ⟨k, held⟩)
    rw [forceLock_other (free .envelope), forceLock_other (free .markers)]
    exact ⟨rfl, rfl⟩

theorem forcedRelease_env (p : PortId) (s : State) :
    (s.locks.envelope = some p →
      (forcedRelease p s).env = { s.env with suspended := s.env.suspended || (zoneListFault s.env).isSome }) ∧
      (s.locks.envelope ≠ some p → (forcedRelease p s).env = s.env) := by
  rw [(forcedRelease_blocks p s).1]
  refine ⟨fun held => ?_, fun other => ?_⟩
  · rw [forceLock, if_pos (show s.locks.holder .envelope = some p from held)]
    exact suspendZones_env (setLock .envelope none s)
  · rw [forceLock_other (k := .envelope) other]

theorem forcedRelease_mku (p : PortId) (s : State) :
    (s.locks.markers = some p → (forcedRelease p s).mku.suspended = (s.mku.suspended || (markerTableFault s.mku).isSome)) ∧
      (s.locks.markers ≠ some p → (forcedRelease p s).mku = s.mku) := by
  rw [(forcedRelease_blocks p s).2]
  have holder : (forceLock p .envelope s).locks.holder .markers = s.locks.markers := forceLock_holder (by decide) s
  have mku : (forceLock p .envelope s).mku = s.mku := forceLock_mku_other (by decide) s
  refine ⟨fun held => ?_, fun other => ?_⟩
  · rw [forceLock, if_pos (holder.trans held)]
    obtain ⟨n, same⟩ := recomputeNext_eq (suspendMarkers (setLock .markers none (forceLock p .envelope s)))
    rw [reportForced, same]
    change (suspendMarkers (setLock .markers none (forceLock p .envelope s))).mku.suspended = _
    rw [suspendMarkers_mku]
    change ((forceLock p .envelope s).mku.suspended || (markerTableFault (forceLock p .envelope s).mku).isSome) = _
    rw [mku]
  · rw [forceLock_other (by rw [holder]; exact other), mku]

/-- The locks after a forced release (R174). -/
theorem forcedRelease_holder (p : PortId) (s : State) (k : Lock) :
    (forcedRelease p s).locks.holder k = if s.locks.holder k = some p then none else s.locks.holder k := by
  obtain ⟨e, m, -, same⟩ := forcedRelease_eq p s
  rw [same]
  split
  · rw [raiseAll_locks]
    exact without_holder s.locks p k
  · rename_i none
    rw [if_neg fun held => none ((holdsAny_iff s p).2 ⟨k, held⟩)]

/-- What a forced release leaves outside the locks and their owners. -/
theorem forcedRelease_rest (p : PortId) (s : State) :
    (forcedRelease p s).mku.table = s.mku.table ∧ (forcedRelease p s).slb = s.slb ∧ (forcedRelease p s).chu = s.chu ∧
      (forcedRelease p s).scv = s.scv ∧ (forcedRelease p s).adv = s.adv ∧ (forcedRelease p s).head1 = s.head1 ∧
      (forcedRelease p s).head2 = s.head2 ∧ (forcedRelease p s).signals = s.signals ∧ (forcedRelease p s).setup = s.setup ∧
      (forcedRelease p s).timebase = s.timebase := by
  obtain ⟨e, m, table, same⟩ := forcedRelease_eq p s
  rw [same]
  split
  · exact ⟨table, rfl, rfl, rfl, rfl, rfl, rfl, rfl, rfl, rfl⟩
  · exact ⟨rfl, rfl, rfl, rfl, rfl, rfl, rfl, rfl, rfl, rfl⟩

theorem forcedRelease_tables (p : PortId) (s : State) :
    (forcedRelease p s).env.radii = s.env.radii ∧ (forcedRelease p s).env.zones = s.env.zones := by
  obtain ⟨held, other⟩ := forcedRelease_env p s
  by_cases holds : s.locks.envelope = some p
  · rw [held holds]; exact ⟨rfl, rfl⟩
  · rw [other holds]; exact ⟨rfl, rfl⟩

/-! ## The link timer (O44) -/

/-- A demotion touches the cursor and the Store Arbiter alone (R152). -/
theorem demoteCursor_rest (p : PortId) (s : State) :
    SameButSlices (demoteCursor p s) s ∧ (demoteCursor p s).slb = s.slb ∧ (demoteCursor p s).adv = s.adv ∧
      ∀ q, (demoteCursor p s).port q = s.port q := by
  unfold demoteCursor
  split
  · have same := retryEvent_same (setCursorOf p { s.pst.cursor p with mode := .follow } s)
    refine ⟨⟨same.pending, same.timebase, same.windowTime, same.conversionTime, same.nextChannel, same.head1, same.head2, same.scv,
      same.chu, same.mku, same.env, same.locks, same.signals, same.setup, same.freeCount, fun q => ?_⟩, ?_, ?_, fun q => ?_⟩
    · exact (same.port q).trans (by cases q <;> rfl)
    · rw [retryEvent_slb]; rfl
    · rw [retryEvent_adv]; rfl
    · rw [retryEvent_port]
      cases q <;> rfl
  · exact ⟨⟨rfl, rfl, rfl, rfl, rfl, rfl, rfl, rfl, rfl, rfl, rfl, rfl, rfl, rfl, rfl, fun _ => rfl⟩, rfl, rfl, fun _ => rfl⟩

theorem contents_setCursor_congr {t u : ProfileStore} {p : PortId} {c : Cursor} (same : contents t = contents (u.setCursor p c)) :
    t.cursor p = c ∧ (∀ q, q ≠ p → t.cursor q = u.cursor q) ∧ t.records = u.records ∧ t.nextSeq = u.nextSeq := by
  refine ⟨?_, fun q other => ?_, ?_, ?_⟩
  · rw [cursor_of_contents same, setCursor_cursor_self]
  · rw [cursor_of_contents same, setCursor_cursor, if_neg other]
  · rw [records_of_contents same]; cases p <;> rfl
  · rw [nextSeq_of_contents same]; cases p <;> rfl

theorem setCursor_cursor_same (t : ProfileStore) (p : PortId) : t.setCursor p (t.cursor p) = t := by cases p <;> rfl

/-- The store after a link has gone DOWN (R152). -/
theorem linkDown_contents (p : PortId) (s : State) :
    contents (linkDown p s).pst = contents (s.pst.setCursor p { s.pst.cursor p with mode := .follow }) := by
  by_cases retains : (s.pst.cursor p).mode = .retain
  · obtain ⟨u, same, store, -⟩ := linkDown_demotes retains
    rw [same, retryEvent_contents, store]
  · have follows : (s.pst.cursor p).mode = .follow := by
      cases mode : (s.pst.cursor p).mode with
      | follow => rfl
      | retain => exact absurd mode retains
    have own : { s.pst.cursor p with mode := .follow } = s.pst.cursor p := by rw [← follows]
    rw [linkDown_stays follows, own, setCursor_cursor_same]

/-- The ports after a link has gone DOWN (R171, R174). -/
theorem linkDown_port (p q : PortId) (s : State) :
    (linkDown p s).port q =
      let m := (forcedRelease p (s.setPort p { s.port p with link := .down })).port q
      if q = p then m else { m with latch := latched .portDown m.latch } := by
  have mapped : ∀ t : State, (raiseOthers .portDown p t).port q =
      if q = p then t.port q else { t.port q with latch := latched .portDown (t.port q).latch } := fun t => by cases q <;> rfl
  rw [linkDown, mapped, (demoteCursor_rest _ _).2.2.2]

theorem linkExpired_of_up {p : PortId} {n : Nat} {s : State} (up : (s.port p).link = .up n) :
    linkExpired p s = (decide (s.setup.linkTimeout p ≠ 0) && decide (s.setup.linkTimeout p * 10000 ≤ n)) := by
  rw [linkExpired, up]
  rfl

theorem linkExpired_of_down {p : PortId} {s : State} (down : (s.port p).link = .down) : linkExpired p s = false := by
  rw [linkExpired, down]

/-- The expiry of a link timer that has not run out has no effect (log entry 7). -/
theorem linkExpires_early {p : PortId} {s : State} (early : linkExpired p s = false) : exec (.linkTimeout p) s = .next s :=
  congrArg Host.Outcome.next (if_neg (by rw [early]; exact Bool.false_ne_true))

/-- Settles O44: the expiry by the link as it stands, and a link that goes DOWN by its locks, its cursor and the latches. -/
theorem linkTimeoutTakesTheLinkDown : Obligations.LinkTimeoutTakesTheLinkDown := by
  intro p s
  refine ⟨fun stopped => ?_, fun n up early => ?_, fun n up timed due => ?_⟩
  · refine linkExpires_early ?_
    rcases stopped with down | zero
    · exact linkExpired_of_down down
    · cases link : (s.port p).link with
      | down => exact linkExpired_of_down link
      | up n => rw [linkExpired_of_up link, zero]; rfl
  · refine linkExpires_early ?_
    rw [linkExpired_of_up up, decide_eq_false (Nat.not_le.2 early), Bool.and_false]
  · have expired : linkExpired p s = true := by
      rw [linkExpired_of_up up, decide_eq_true timed, decide_eq_true due]
      rfl
    let d := s.setPort p { s.port p with link := .down }
    let f := forcedRelease p d
    have locks : d.locks = s.locks := setPort_locks s p _
    have env : d.env = s.env := setPort_env s p _
    have mku : d.mku = s.mku := setPort_mku s p _
    obtain ⟨own, others, records, nextSeq⟩ := contents_setCursor_congr (linkDown_contents p s)
    obtain ⟨demoted, slb, adv, -⟩ := demoteCursor_rest p f
    obtain ⟨table, fslb, fchu, fscv, fadv, fhead1, fhead2, fsignals, fsetup, -⟩ := forcedRelease_rest p d
    obtain ⟨envHeld, envFree⟩ := forcedRelease_env p d
    obtain ⟨mkuHeld, mkuFree⟩ := forcedRelease_mku p d
    have port := fun q => linkDown_port p q s
    have released := fun q => forcedRelease_port p q d
    have holds : holdsAny d p = true ↔ ∃ k, s.locks.holder k = some p := by rw [holdsAny_iff, locks]
    have bits : ∀ e q, e ≠ .lockForced → outstanding e (f.port q) = outstanding e (s.port q) := fun e q other => by
      have same : outstanding e (d.port q) = outstanding e (s.port q) := by cases p <;> cases q <;> rfl
      rw [released]
      split
      · rw [outstanding_latched, decide_eq_false other, Bool.false_or]
        exact same
      · exact same
    have forced : ∀ q, outstanding .lockForced ((linkDown p s).port q) = outstanding .lockForced (f.port q) := fun q => by
      rw [port]
      dsimp only
      split
      · rfl
      · rw [outstanding_latched]
        rfl
    have held : ∀ k, f.locks.holder k = if s.locks.holder k = some p then none else s.locks.holder k := fun k => by
      rw [← locks]; exact forcedRelease_holder p d k
    have self : ∀ q, (linkDown p s).port q = if q = p then f.port q else { f.port q with latch := latched .portDown (f.port q).latch } :=
      fun q => port q
    have kept : ∀ {α : Type} (g : MasterPort → α), (∀ m l, g { m with latch := l } = g m) → g ((linkDown p s).port p) = g (d.port p) :=
      fun g stands => by
        rw [self, if_pos rfl, released]
        split
        · exact stands _ _
        · rfl
    refine ⟨_, congrArg Host.Outcome.next (if_pos expired), ?_, ?_, fun k => (congrArg (·.holder k) demoted.locks).trans (held k), own,
      others, records, nextSeq, fun q other => ?_, ?_, fun some q => ?_, fun none q => ?_, fun holds => ?_, fun free => ?_,
      fun holds => ?_, fun free => ?_, ?_, slb.trans (fslb.trans (setPort_slb s p _)), demoted.chu.trans (fchu.trans (setPort_chu s p _)),
      demoted.scv.trans (fscv.trans (setPort_scv s p _)), adv.trans (fadv.trans (setPort_adv s p _)),
      demoted.head1.trans (fhead1.trans (setPort_head1 s p _)), demoted.head2.trans (fhead2.trans (setPort_head2 s p _)),
      demoted.signals.trans (fsignals.trans (setPort_signals s p _)), demoted.setup.trans (fsetup.trans (setPort_setup s p _))⟩
    · rw [kept MasterPort.link fun _ _ => rfl, setPort_port_self]
    · rw [kept MasterPort.slot fun _ _ => rfl, setPort_port_self]
    · rw [self, if_neg other, outstanding_latched]
      rfl
    · rw [self, if_pos rfl]
      exact bits _ _ (by decide)
    · rw [forced, released, if_pos (holds.2 some), outstanding_latched]
      rfl
    · rw [forced, released, if_neg fun any => none _ (holds.1 any).choose_spec]
      cases p <;> cases q <;> rfl
    · rw [env, locks] at envHeld
      exact demoted.env.trans (envHeld holds)
    · rw [env, locks] at envFree
      exact demoted.env.trans (envFree free)
    · rw [mku, locks] at mkuHeld
      exact (congrArg MarkerUnit.suspended demoted.mku).trans (mkuHeld holds)
    · rw [mku, locks] at mkuFree
      exact demoted.mku.trans (mkuFree free)
    · rw [mku] at table
      exact (congrArg MarkerUnit.table demoted.mku).trans table

/-! ## The order of the marker table (R60) -/

/-- The surveyed chainage of the last enabled entry of a list. -/
def lastSurveyed (xs : List MarkerEntry) : Option Nat := ((xs.filter (·.enabled)).getLast?).map (·.surveyed)

theorem lastSurveyed_append (xs : List MarkerEntry) (e : MarkerEntry) :
    lastSurveyed (xs ++ [e]) = if e.enabled then some e.surveyed else lastSurveyed xs := by
  unfold lastSurveyed
  rw [List.filter_append]
  cases enabled : e.enabled <;> simp [enabled]

/-- The last enabled entry of a list, by its place. -/
theorem lastSurveyed_iff (xs : List MarkerEntry) (b : Nat) :
    lastSurveyed xs = some b ↔ ∃ (j : Nat) (f : MarkerEntry), xs[j]? = some f ∧ f.enabled = true ∧ f.surveyed = b ∧
      ∀ m, j < m → (xs[m]?).any (·.enabled) = false := by
  induction xs using List.reverseRecOn with
  | nil => exact ⟨fun h => by simp [lastSurveyed] at h, fun ⟨j, f, at', _⟩ => by simp at at'⟩
  | append_singleton xs e ih =>
    have last : (xs ++ [e])[xs.length]? = some e := by simp
    rw [lastSurveyed_append]
    cases enabled : e.enabled with
    | true =>
      rw [if_pos rfl, Option.some_inj]
      constructor
      · rintro rfl
        refine ⟨xs.length, e, last, enabled, rfl, fun m more => ?_⟩
        rw [List.getElem?_eq_none (by rw [List.length_append, List.length_singleton]; omega)]
        rfl
      · rintro ⟨j, f, at', on, rfl, none⟩
        have inside := (List.getElem?_eq_some_iff.1 at').choose
        rw [List.length_append, List.length_singleton] at inside
        have final : ¬ j < xs.length := fun before => by
          have off := none xs.length before
          rw [last] at off
          exact Bool.noConfusion (off.symm.trans enabled)
        obtain rfl : j = xs.length := by omega
        rw [last] at at'
        rw [Option.some_inj.1 at']
    | false =>
      rw [if_neg Bool.false_ne_true, ih]
      constructor
      · rintro ⟨j, f, at', on, value, none⟩
        have inside : j < xs.length := (List.getElem?_eq_some_iff.1 at').choose
        refine ⟨j, f, by rw [List.getElem?_append_left inside, at'], on, value, fun m more => ?_⟩
        rcases Nat.lt_trichotomy m xs.length with less | rfl | beyond
        · rw [List.getElem?_append_left less]; exact none m more
        · rw [last]; exact enabled
        · rw [List.getElem?_eq_none (by rw [List.length_append, List.length_singleton]; omega)]; rfl
      · rintro ⟨j, f, at', on, value, none⟩
        have inside := (List.getElem?_eq_some_iff.1 at').choose
        rw [List.length_append, List.length_singleton] at inside
        have before : j < xs.length := by
          refine Nat.lt_of_le_of_ne (by omega) ?_
          rintro rfl
          rw [last] at at'
          rw [Option.some_inj.1 at'] at enabled
          exact Bool.noConfusion (on.symm.trans enabled)
        refine ⟨j, f, by rw [← at', List.getElem?_append_left before], on, value, fun m more => ?_⟩
        by_cases less : m < xs.length
        · rw [← List.getElem?_append_left (l₂ := [e]) less]; exact none m more
        · rw [List.getElem?_eq_none (Nat.not_lt.1 less)]; rfl

/-- The entry at an index does not lie above the enabled one before it (R60). -/
def disorderAt (xs : List MarkerEntry) (i : Nat) : Prop :=
  ∃ e, xs[i]? = some e ∧ e.enabled = true ∧ ∃ b, lastSurveyed (xs.take i) = some b ∧ e.surveyed ≤ b

theorem firstDisorder_first (earlier xs : List MarkerEntry) :
    firstFrom (disorderAt (earlier ++ xs)) earlier.length (firstDisorder earlier.length (lastSurveyed earlier) xs) := by
  induction xs generalizing earlier with
  | nil =>
    rintro k from' ⟨e, at', -⟩
    rw [List.append_nil, List.getElem?_eq_none from'] at at'
    exact absurd at' (by simp)
  | cons e rest ih =>
    have here : (earlier ++ e :: rest)[earlier.length]? = some e := by simp
    have before : (earlier ++ e :: rest).take earlier.length = earlier := by simp
    have next : firstFrom (disorderAt (earlier ++ e :: rest)) (earlier.length + 1)
        (firstDisorder (earlier.length + 1) (if e.enabled then some e.surveyed else lastSurveyed earlier) rest) := by
      simpa [lastSurveyed_append] using ih (earlier ++ [e])
    unfold firstDisorder
    cases enabled : e.enabled with
    | false =>
      rw [enabled] at next
      refine firstFrom_pred ?_ next
      rintro ⟨x, at', on, -⟩
      rw [here] at at'
      rw [Option.some_inj.1 at'] at enabled
      exact Bool.noConfusion (on.symm.trans enabled)
    | true =>
      rw [enabled] at next
      rw [if_pos rfl] at next ⊢
      cases last : lastSurveyed earlier with
      | none =>
        refine firstFrom_pred ?_ next
        rintro ⟨x, -, -, b, some, -⟩
        rw [before, last] at some
        cases some
      | some b =>
        dsimp only
        by_cases low : e.surveyed ≤ b
        · rw [if_pos low]
          exact ⟨le_rfl, ⟨e, here, enabled, b, by rw [before, last], low⟩, fun k from' below => absurd below (Nat.not_lt.2 from')⟩
        · rw [if_neg low]
          refine firstFrom_pred ?_ next
          rintro ⟨x, at', -, c, some, value⟩
          rw [here] at at'
          rw [before, last] at some
          rw [← Option.some_inj.1 at', ← Option.some_inj.1 some] at value
          exact low value

theorem markerTableFault_first (m : MarkerUnit) : firstFrom (disorderAt m.table.toList) 0 (markerTableFault m) :=
  firstDisorder_first [] m.table.toList

/-- An entry fails against the enabled entry next before it (R60). -/
theorem disorderAt_iff (xs : List MarkerEntry) (i : Nat) :
    disorderAt xs i ↔ ∃ e, xs[i]? = some e ∧ e.enabled = true ∧ ∃ (j : Nat) (f : MarkerEntry), j < i ∧ xs[j]? = some f ∧
      f.enabled = true ∧ e.surveyed ≤ f.surveyed ∧ ∀ m, j < m → m < i → (xs[m]?).any (·.enabled) = false := by
  refine exists_congr fun e => and_congr_right fun _ => and_congr_right fun _ => ?_
  constructor
  · rintro ⟨b, last, low⟩
    obtain ⟨j, f, at', on, rfl, none⟩ := (lastSurveyed_iff _ _).1 last
    have inside : j < i := by
      by_contra outside
      rw [List.getElem?_eq_none (by rw [List.length_take]; omega)] at at'
      cases at'
    rw [List.getElem?_take, if_pos inside] at at'
    refine ⟨j, f, inside, at', on, low, fun m more less => ?_⟩
    have off := none m more
    rwa [List.getElem?_take, if_pos less] at off
  · rintro ⟨j, f, inside, at', on, low, none⟩
    refine ⟨f.surveyed, (lastSurveyed_iff _ _).2 ⟨j, f, by rw [List.getElem?_take, if_pos inside, at'], on, rfl, fun m more => ?_⟩, low⟩
    rw [List.getElem?_take]
    split
    · rename_i less
      exact none m more less
    · rfl

/-- A list none of whose entries fails rises strictly with the index (R60). -/
theorem rises_iff (xs : List MarkerEntry) :
    (∀ i, ¬ disorderAt xs i) ↔ ∀ (i j : Nat) (e f : MarkerEntry), xs[i]? = some e → xs[j]? = some f → i < j → e.enabled = true →
      f.enabled = true → e.surveyed < f.surveyed := by
  constructor
  · intro sound i j
    induction gap : j - i using Nat.strong_induction_on generalizing i j with
    | _ n ih =>
      intro e f ati atj less one two
      by_cases between : ∃ (m : Nat) (x : MarkerEntry), i < m ∧ m < j ∧ xs[m]? = some x ∧ x.enabled = true
      · obtain ⟨m, x, low, high, atm, on⟩ := between
        have first := ih (m - i) (by omega) i m rfl e x ati atm low one on
        have second := ih (j - m) (by omega) m j rfl x f atm atj high on two
        exact first.trans second
      · refine Nat.lt_of_not_le fun low => sound j ((disorderAt_iff xs j).2 ⟨f, atj, two, i, e, less, ati, one, low, fun m more under => ?_⟩)
        cases atm : xs[m]? with
        | none => rfl
        | some x => exact Bool.eq_false_iff.2 fun on => between ⟨m, x, more, under, atm, on⟩
  · intro rises i fails
    obtain ⟨e, ati, on, j, f, less, atj, other, low, -⟩ := (disorderAt_iff xs i).1 fails
    exact absurd (rises j i f e atj ati less other on) (Nat.not_lt.2 low)

/-! ## TAKE LOCK and GIVE LOCK (O45) -/

theorem lockOf_other {b : Byte} (big : 2 < b.toNat) : lockOf b = none := by
  unfold lockOf
  split
  · omega
  · omega
  · omega
  · rfl

/-- The first enabled marker that is not passed, with the entries read from the table (R68). -/
theorem firstNotPassed_eq (s : State) (d : Direction) :
    firstNotPassed s d = (markerOrder d).find? fun i => (s.mku.table[i]?).any (·.enabled) &&
      !(s.mku.table[i]?).any (fun x => markerPassed d (s.chu.chainage / 1000) x) := by
  unfold firstNotPassed
  congr 1
  funext i
  cases entry : s.mku.table[i]? <;> simp [markerAt, entry, MarkerEntry.reset, chainageMm]

/-- With matching ACTIVE the next expected marker is that of the position (R68). -/
theorem recomputeNext_of_active {s : State} (active : matchingState s = .active) :
    recomputeNext s = setNext (if s.chu.quality = .lost then none else match s.chu.direction with
      | none => none
      | some d => firstNotPassed s d) s := by
  unfold recomputeNext
  rw [active]
  cases s.chu.direction <;> cases s.chu.quality <;> rfl

section
variable {p : PortId} {b : Byte} {k : Lock} {s : State} (idle : (s.port p).slot = .idle) (known : lockOf b = some k)
include idle known

theorem takeLock_of : exec (.takeLock p b) s =
    .next (withAnswer p (takeLockOf p k (afterFrame p s)).2.status 0x08 (takeLockOf p k (afterFrame p s)).2.payload
      (takeLockOf p k (afterFrame p s)).1) := by
  refine congrArg Host.Outcome.next ((plainRequest_idle idle 0x08 (takeLockRequest p b)).trans ?_)
  rw [takeLockRequest, known]

theorem giveLock_of : exec (.giveLock p b) s =
    .next (withAnswer p (giveLockOf p k (afterFrame p s)).2.status 0x09 (giveLockOf p k (afterFrame p s)).2.payload
      (giveLockOf p k (afterFrame p s)).1) := by
  refine congrArg Host.Outcome.next ((plainRequest_idle idle 0x09 (giveLockRequest p b)).trans ?_)
  rw [giveLockRequest, known]

end

theorem takeLockOf_free {p : PortId} {k : Lock} {s : State} (free : s.locks.holder k = none) :
    takeLockOf p k s = (reportTake k (setLock k (some p) s), bare .granted) := by
  rw [takeLockOf, free]

theorem takeLockOf_held {p q : PortId} {k : Lock} {s : State} (held : s.locks.holder k = some q) :
    takeLockOf p k s = if q = p then (s, bare .granted) else (s, { status := .held, payload := bytesOf 1 (portNumber q) }) := by
  rw [takeLockOf, held]

/-- Settles O45: the take and the give by the holder of the lock, and the order of the marker table. -/
theorem locksAreTakenAndGiven : Obligations.LocksAreTakenAndGiven := by
  intro p b s idle c enabled passed inOrder next fails
  let a := afterFrame p s
  have locks : a.locks = s.locks := afterFrame_locks p s
  have slb : a.slb = s.slb := afterFrame_slb p s
  have mku : a.mku = s.mku := afterFrame_mku p s
  have env : a.env = s.env := afterFrame_env p s
  have chu : a.chu = s.chu := afterFrame_chu p s
  have holder : ∀ k, a.locks.holder k = s.locks.holder k := fun k => by rw [locks]
  have fault : ∀ k, lockFault k a = lockFault k s := fun k => by
    cases k
    · exact congrArg zoneListFault env
    · exact congrArg markerTableFault mku
    · rfl
  have order : ∀ i, fails i ↔ disorderAt s.mku.table.toList i := fun i => by
    simp only [fails, enabled, disorderAt_iff, Vector.getElem?_toList]
  refine ⟨fun big => ⟨congrArg Host.Outcome.next ?_, congrArg Host.Outcome.next ?_⟩, fun k known => ⟨fun free => ?_, fun own => ?_,
    fun q held other => ?_, fun other => ?_, fun own => ⟨fun i failing => ?_, fun sound => ?_⟩⟩, rfl, rfl, rfl, fun i => ?_, ?_⟩
  · exact plainRequest_unchanged (r := bare .badValue) idle 0x08 (by rw [takeLockRequest, lockOf_other big])
  · exact plainRequest_unchanged (r := bare .badValue) idle 0x09 (by rw [giveLockRequest, lockOf_other big])
  · rw [takeLock_of idle known, takeLockOf_free ((holder k).trans free), ← slb, ← mku, ← locks]
    cases k <;> rfl
  · rw [takeLock_of idle known, takeLockOf_held ((holder k).trans own), if_pos rfl]
    rfl
  · rw [takeLock_of idle known, takeLockOf_held ((holder k).trans held), if_neg other, bytesOf_one]
    rfl
  · rw [giveLock_of idle known, giveLockOf, if_neg (by rw [holder]; exact other)]
    rfl
  · rw [giveLock_of idle known, giveLockOf, if_pos ((holder k).trans own), fault, failing]
    dsimp only
    rw [bytesOf_one]
    rfl
  · rw [giveLock_of idle known, giveLockOf, if_pos ((holder k).trans own), fault, sound]
    cases k with
    | envelope => rw [← env, ← locks, ← mku]; rfl
    | setup => rw [← env, ← locks, ← mku]; rfl
    | markers =>
      let u : State := { a with locks := s.locks.setHolder .markers none, mku := { s.mku with suspended := false } }
      have freed : { setLock .markers none a with mku := { (setLock .markers none a).mku with suspended := false } } = u := by
        rw [setLock, locks]
        change { a with locks := _, mku := { a.mku with suspended := false } } = u
        rw [mku]
      have expected : recomputeNext u = setNext next u := by
        have same : u.chu = s.chu := chu
        have first : ∀ d, firstNotPassed u d = (inOrder d).find? fun i => enabled i && !passed d i := fun d => by
          rw [firstNotPassed_eq, same]
          cases d <;> rfl
        rw [recomputeNext_of_active (matchingState_active rfl rfl), same]
        congr 1
        refine if_congr Iff.rfl rfl ?_
        cases s.chu.direction with
        | none => rfl
        | some d => exact first d
      dsimp only [reportGive]
      rw [freed, expected, ← env]
      rfl
  · rw [firstFrom_some_iff (markerTableFault_first s.mku)]
    simp only [order]
  · rw [firstFrom_none_iff (markerTableFault_first s.mku), rises_iff]
    simp only [Vector.getElem?_toList]

end Sys2Proof.Machine

/-! PROOF. The resets: O51 to O53. -/

namespace Sys2Proof.Machine

/-! ## What of a port its requests' work leaves alone

The link, the bytes clocked out and the table pointer of a port are looked at by nothing that the store, the locks or the slices do. So
a PORT RESET that completes a granted request behind its own frame leaves what STORE_GRANT leaves in front of one. -/

/-- A change of a port that leaves its slot and its latch and depends on neither. -/
structure Aside (g : MasterPort → MasterPort) : Prop where
  slot : ∀ m, (g m).slot = m.slot
  latch : ∀ m, (g m).latch = m.latch
  setSlot : ∀ m x, g { m with slot := x } = { g m with slot := x }
  setLatch : ∀ m x, g { m with latch := x } = { g m with latch := x }

/-- The state with a port changed. -/
def atPort (p : PortId) (g : MasterPort → MasterPort) (s : State) : State := s.setPort p (g (s.port p))

section
variable {g : MasterPort → MasterPort} (p : PortId) (s : State)

@[simp] theorem atPort_pst : (atPort p g s).pst = s.pst := by cases p <;> rfl
@[simp] theorem atPort_adv : (atPort p g s).adv = s.adv := by cases p <;> rfl
@[simp] theorem atPort_slb : (atPort p g s).slb = s.slb := by cases p <;> rfl
@[simp] theorem atPort_locks : (atPort p g s).locks = s.locks := by cases p <;> rfl
@[simp] theorem atPort_setup : (atPort p g s).setup = s.setup := by cases p <;> rfl

theorem adviceOf_atPort : adviceOf (atPort p g s) = adviceOf s := by cases p <;> rfl

/-- A change of the store commutes with one of a port. -/
theorem withStore_atPort (t : ProfileStore) : { atPort p g s with pst := t } = atPort p g { s with pst := t } := by cases p <;> rfl

theorem setCursorOf_atPort (q : PortId) (c : Cursor) : setCursorOf q c (atPort p g s) = atPort p g (setCursorOf q c s) := by
  cases p <;> rfl

/-- A change of another port commutes. -/
theorem atPort_other {q : PortId} (apart : q ≠ p) (f : MasterPort → MasterPort) :
    atPort q f (atPort p g s) = atPort p g (atPort q f s) := by
  cases p <;> cases q <;> simp [atPort, State.setPort, State.port] at apart ⊢

theorem recomputeNext_atPort : recomputeNext (atPort p g s) = atPort p g (recomputeNext s) := by
  have matching : matchingState (atPort p g s) = matchingState s := by cases p <;> rfl
  have chu : (atPort p g s).chu = s.chu := by cases p <;> rfl
  have first : ∀ d, firstNotPassed (atPort p g s) d = firstNotPassed s d := fun d => by cases p <;> rfl
  have next : ∀ n, setNext n (atPort p g s) = atPort p g (setNext n s) := fun n => by cases p <;> rfl
  simp only [recomputeNext, matching, chu, first, next]
  split <;> rfl

theorem forceLock_atPort (q : PortId) (k : Lock) : forceLock q k (atPort p g s) = atPort p g (forceLock q k s) := by
  have freed : setLock k none (atPort p g s) = atPort p g (setLock k none s) := by cases p <;> rfl
  have reported : ∀ t, reportForced k (atPort p g t) = atPort p g (reportForced k t) := fun t => by
    cases k with
    | envelope =>
      have env : (atPort p g t).env = t.env := by cases p <;> rfl
      simp only [reportForced, suspendZones, env]
      split <;> cases p <;> rfl
    | markers =>
      have mku : (atPort p g t).mku = t.mku := by cases p <;> rfl
      have suspended : suspendMarkers (atPort p g t) = atPort p g (suspendMarkers t) := by
        simp only [suspendMarkers, mku]
        split <;> cases p <;> rfl
      simp only [reportForced, suspended, recomputeNext_atPort]
    | setup => rfl
  simp only [forceLock, atPort_locks, freed, reported]
  split <;> rfl

end

section
variable {g : MasterPort → MasterPort} (aside : Aside g) (p : PortId) (s : State)
include aside

theorem atPort_slot (q : PortId) : ((atPort p g s).port q).slot = (s.port q).slot := by
  rw [atPort, setPort_port]
  split
  · rename_i own; rw [own, aside.slot]
  · rfl

theorem setSlot_atPort (q : PortId) (x : Slot) : setSlot q x (atPort p g s) = atPort p g (setSlot q x s) := by
  by_cases own : q = p
  · subst own
    have changed := (aside.setSlot (s.port q) x).symm
    cases q <;> simp only [setSlot, atPort, State.setPort, State.port] at changed ⊢ <;> rw [changed]
  · exact atPort_other p s own fun m => { m with slot := x }

/-- A change of the latches by which each port's is its own. -/
theorem mapPorts_atPort {f : PortId → EventMask → EventMask} :
    (atPort p g s).mapPorts (fun q m => { m with latch := f q m.latch }) =
      atPort p g (s.mapPorts fun q m => { m with latch := f q m.latch }) := by
  have changed := aside.setLatch (s.port p) (f p (s.port p).latch)
  have stands := aside.latch (s.port p)
  cases p <;> simp only [State.mapPorts, atPort, State.setPort, State.port] at changed stands ⊢ <;> rw [stands, changed]

theorem raiseAll_atPort (e : Event) : raiseAll e (atPort p g s) = atPort p g (raiseAll e s) :=
  mapPorts_atPort aside p s (f := fun _ => latched e)

theorem evaluateAdvice_atPort : evaluateAdvice (atPort p g s) = atPort p g (evaluateAdvice s) := by
  simp only [evaluateAdvice, adviceOf_atPort, atPort_adv]
  split
  · cases p <;> rfl
  · rw [← raiseAll_atPort aside]
    cases p <;> rfl

theorem storeCleared_atPort : storeCleared (atPort p g s) = atPort p g (storeCleared s) := by
  have told : ∀ u : State, (u.mapPorts fun q m =>
      if 0 < availableTo s.pst (s.pst.cursor q) then { m with latch := latched .recordsMissed m.latch } else m) =
      u.mapPorts fun q m => { m with
        latch := if 0 < availableTo s.pst (s.pst.cursor q) then latched .recordsMissed m.latch else m.latch } := fun u => by
    congr 1; funext q m; split <;> rfl
  have mapped := mapPorts_atPort aside p s (f := fun q l =>
    if 0 < availableTo s.pst (s.pst.cursor q) then latched .recordsMissed l else l)
  rw [← told, ← told] at mapped
  have cleared := congrArg (fun t : State => { t with pst := (storeCleared s).pst }) mapped
  cases p <;> exact cleared

/-! ### The Store Arbiter -/

theorem portWaiting_atPort (q : PortId) : portWaiting (atPort p g s) q = portWaiting s q := portWaiting_congr (atPort_slot aside p s q)

theorem storeFree_atPort : storeFree (atPort p g s) = storeFree s := storeFree_congr (by rw [atPort_pst]) (portWaiting_atPort aside p s)

theorem nextWaiting_atPort : nextWaiting (atPort p g s) = nextWaiting s :=
  nextWaiting_congr (by rw [atPort_pst]) (portWaiting_atPort aside p s)

theorem askCommit_atPort : askCommit (atPort p g s) = atPort p g (askCommit s) := by
  simp only [askCommit, grantCommit, storeFree_atPort aside, atPort_pst, withStore_atPort]
  split <;> rfl

theorem retryEvent_atPort : retryEvent (atPort p g s) = atPort p g (retryEvent s) := by
  simp only [retryEvent, askCommit_atPort aside, atPort_pst, withStore_atPort]
  split
  · split <;> rfl
  · split <;> rfl

theorem grantNextPort_atPort : grantNextPort (atPort p g s) = atPort p g (grantNextPort s) := by
  simp only [grantNextPort, nextWaiting_atPort aside, grantPort, atPort_pst, withStore_atPort]
  cases nextWaiting s <;> rfl

theorem releaseByPort_atPort : releaseByPort (atPort p g s) = atPort p g (releaseByPort s) := by
  simp only [releaseByPort, grantCommit, grantNextPort_atPort aside, atPort_pst, withStore_atPort]
  split <;> rfl

theorem moveCursor_atPort (q : PortId) (n : SeqNo) : moveCursor q n (atPort p g s) = atPort p g (moveCursor q n s) := by
  simp only [moveCursor, atPort_pst, setCursorOf_atPort, retryEvent_atPort aside]

theorem serveRequest_atPort (q : PortId) (r : StoreRequest) :
    serveRequest q r (atPort p g s) = (atPort p g (serveRequest q r s).1, (serveRequest q r s).2) := by
  cases r with
  | readNext =>
    have reads : recordsAt q 1 (atPort p g s) = recordsAt q 1 s := by rw [recordsAt, atPort_pst]; rfl
    simp only [serveRequest, serveReadNext, reads, atPort_pst]
    cases recordsAt q 1 s with
    | nil => rfl
    | cons r rest => simp only [moveCursor_atPort aside]
  | readBlock count =>
    have reads : recordsAt q count (atPort p g s) = recordsAt q count s := by rw [recordsAt, atPort_pst]; rfl
    simp only [serveRequest, serveReadBlock, reads, atPort_pst]
    cases recordsAt q count s with
    | nil => rfl
    | cons r rest => simp only [moveCursor_atPort aside]
  | peek n =>
    simp only [serveRequest, servePeek, atPort_pst]
    cases placeOf s.pst n <;> rfl
  | setCursor target => simp only [serveRequest, serveSetCursor, atPort_pst, moveCursor_atPort aside]
  | clear => simp only [serveRequest, serveClear_eq, storeCleared_atPort aside, evaluateAdvice_atPort aside, retryEvent_atPort aside]

theorem grantAndServe_atPort (q : PortId) (r : StoreRequest) (echo : Byte) :
    grantAndServe q r echo (atPort p g s) = atPort p g (grantAndServe q r echo s) := by
  have granted : grantPort q (atPort p g s) = atPort p g (grantPort q s) := by rw [grantPort, atPort_pst, withStore_atPort]; rfl
  simp only [grantAndServe, granted, serveRequest_atPort aside, putAnswer, setSlot_atPort aside, releaseByPort_atPort aside]

/-! ### Locks and links -/

theorem forcedRelease_atPort (q : PortId) : forcedRelease q (atPort p g s) = atPort p g (forcedRelease q s) := by
  have any : holdsAny (atPort p g s) q = holdsAny s q := by cases p <;> rfl
  simp only [forcedRelease, any, forceLock_atPort, raiseAll_atPort aside]
  split <;> rfl

/-- Another port's link goes DOWN. -/
theorem linkDown_atPort {q : PortId} (apart : q ≠ p) : linkDown q (atPort p g s) = atPort p g (linkDown q s) := by
  have down := atPort_other p s apart (g := g) fun m => { m with link := .down }
  have demoted : ∀ t, demoteCursor q (atPort p g t) = atPort p g (demoteCursor q t) := fun t => by
    simp only [demoteCursor, atPort_pst, setCursorOf_atPort, retryEvent_atPort aside]
    split <;> rfl
  have told : ∀ u : State, raiseOthers .portDown q u =
      u.mapPorts fun r m => { m with latch := if r = q then m.latch else latched .portDown m.latch } := fun u => by
    rw [raiseOthers]; congr 1; funext r m; split <;> rfl
  change raiseOthers .portDown q (demoteCursor q (forcedRelease q (atPort q (fun m => { m with link := .down }) (atPort p g s)))) = _
  rw [down, forcedRelease_atPort aside, demoted, told,
    mapPorts_atPort aside p (f := fun r l => if r = q then l else latched .portDown l), ← told]
  rfl

end

/-- The state with another link and another output at a port. -/
def wired (p : PortId) (l : Link) (o : List Byte) (s : State) : State := atPort p (fun m => { m with link := l, sdo := o }) s

theorem aside_wire (l : Link) (o : List Byte) : Aside fun m => { m with link := l, sdo := o } :=
  ⟨fun _ => rfl, fun _ => rfl, fun _ _ => rfl, fun _ _ => rfl⟩

theorem afterFrame_eq_wired (p : PortId) (s : State) : afterFrame p s = wired p (.up 0) [statusByte s p] s := rfl

theorem grantAndServe_wired (p q : PortId) (l : Link) (o : List Byte) (r : StoreRequest) (echo : Byte) (s : State) :
    grantAndServe q r echo (wired p l o s) = wired p l o (grantAndServe q r echo s) := grantAndServe_atPort (aside_wire l o) p s q r echo

/-- What a PORT RESET does once a granted request is completed (R183). -/
def emptied (p : PortId) (s : State) : State :=
  putAnswer p 0x0E (bare .ok) (forcedRelease p (resetCursor p (s.setPort p (clearPort (s.port p)))))

theorem resetPort_eq (p : PortId) (s : State) : resetPort p s = emptied p (finishGrant p s) := rfl

theorem emptied_wired (p : PortId) (l : Link) (o : List Byte) (s : State) : emptied p (wired p l o s) = wired p l o (emptied p s) := by
  have cleared : (wired p l o s).setPort p (clearPort ((wired p l o s).port p)) =
      wired p l o (s.setPort p (clearPort (s.port p))) := by cases p <;> rfl
  have aside := aside_wire l o
  unfold emptied
  rw [cleared]
  simp only [wired, resetCursor, atPort_pst, setCursorOf_atPort, retryEvent_atPort aside, forcedRelease_atPort aside, putAnswer,
    setSlot_atPort aside]

/-! ## PORT RESET (O51) -/

/-- A port that was granted the store does not hold it once it is served (R149, R150). -/
theorem grantAndServe_released (p : PortId) (q : StoreRequest) (echo : Byte) (s : State) :
    (grantAndServe p q echo s).pst.holder ≠ .port p := by
  rw [grantAndServe]
  let w := putAnswer p echo (serveRequest p q (grantPort p s)).2 (serveRequest p q (grantPort p s)).1
  rcases releaseByPort_cases w with ⟨-, same⟩ | ⟨-, same⟩
  · rw [same]; exact Holder.noConfusion
  · intro held
    rw [same] at held
    have waits := (grantNextPort_rests w).2.1 p held
    rw [(grantNextPort_same w).waiting, portWaiting_putAnswer, if_pos rfl] at waits
    exact Bool.noConfusion waits

/-- A PORT RESET of a port that was granted the store does what STORE_GRANT and a PORT RESET do one after the other. -/
theorem portReset_completes {p : PortId} {s : State} (holder : s.pst.holder = .port p) (waits : portWaiting s p = true) :
    ∃ t, exec .storeGrant s = .next t ∧ t.pst.holder ≠ .port p ∧ ∃ u, exec (.portReset p) t = .next u ∧
      exec (.portReset p) s = .next (u.setPort p { u.port p with sdo := [statusByte s p] }) := by
  obtain ⟨q, echo, working⟩ : ∃ q echo, (s.port p).slot = .working q echo := by
    cases slot : (s.port p).slot with
    | idle => simp [portWaiting, slot] at waits
    | working q echo => exact ⟨q, echo, rfl⟩
    | ready a => simp [portWaiting, slot] at waits
  let t := grantAndServe p q echo s
  have served : exec .storeGrant s = .next t := by
    change Host.Outcome.next (grantWaiting s) = _
    rw [grantWaiting, holder]
    exact congrArg Host.Outcome.next (finishGrant_holder holder working)
  have released : t.pst.holder ≠ .port p := grantAndServe_released p q echo s
  have first : finishGrant p (afterFrame p t) = afterFrame p t := finishGrant_other (.inl (by rwa [afterFrame_pst]))
  have second : finishGrant p (afterFrame p s) = wired p (.up 0) [statusByte s p] t := by
    rw [finishGrant_holder (q := q) (echo := echo) (by rwa [afterFrame_pst]) (by rwa [afterFrame_slot]), afterFrame_eq_wired,
      grantAndServe_wired]
  refine ⟨t, served, released, emptied p (afterFrame p t), ?_, ?_⟩
  · rw [execPortReset_eq, resetPort_eq, first]
  · rw [execPortReset_eq, resetPort_eq, second, emptied_wired, afterFrame_eq_wired, emptied_wired]
    cases p <;> rfl

/-- The ports after a PORT RESET has emptied one (R174, R183). -/
theorem emptied_port (p q : PortId) (s : State) :
    (emptied p s).port q =
      let m := if q = p then clearPort (s.port p) else s.port q
      let f := if holdsAny s p then { m with latch := latched .lockForced m.latch } else m
      if q = p then { f with slot := .ready { status := .ok, echo := 0x0E, payload := [] } } else f := by
  let a := s.setPort p (clearPort (s.port p))
  have locks : (resetCursor p a).locks = s.locks := (retryEvent_same _).locks.trans (setPort_locks s p _)
  have holds : holdsAny (resetCursor p a) p = holdsAny s p := by
    rw [Bool.eq_iff_iff, holdsAny_iff, holdsAny_iff, locks]
  have port : (resetCursor p a).port q = if q = p then clearPort (s.port p) else s.port q := by
    rw [resetCursor, retryEvent_port]
    exact setPort_port s p q _
  have slotted : ∀ t : State, (putAnswer p 0x0E (bare .ok) t).port q =
      if q = p then { t.port q with slot := .ready { status := .ok, echo := 0x0E, payload := [] } } else t.port q := fun t => by
    cases p <;> cases q <;> rfl
  rw [emptied, slotted, forcedRelease_port, holds, port]

/-- What a PORT RESET leaves outside the ports, the locks, the tables and the store. -/
theorem emptied_rest (p : PortId) (s : State) :
    (∀ k, (emptied p s).locks.holder k = if s.locks.holder k = some p then none else s.locks.holder k) ∧
      contents (emptied p s).pst = contents (s.pst.setCursor p { position := s.pst.nextSeq, mode := .follow, missed := 0 }) ∧
      (emptied p s).env.radii = s.env.radii ∧ (emptied p s).env.zones = s.env.zones ∧ (emptied p s).mku.table = s.mku.table ∧
      (emptied p s).slb = s.slb ∧ (emptied p s).chu = s.chu ∧ (emptied p s).scv = s.scv ∧ (emptied p s).adv = s.adv ∧
      (emptied p s).head1 = s.head1 ∧ (emptied p s).head2 = s.head2 ∧ (emptied p s).signals = s.signals ∧
      (emptied p s).setup = s.setup ∧ (emptied p s).timebase = s.timebase := by
  let a := s.setPort p (clearPort (s.port p))
  let r := resetCursor p a
  have store : r.pst = (retryEvent (setCursorOf p { position := a.pst.nextSeq, mode := .follow, missed := 0 } a)).pst := rfl
  have same := retryEvent_same (setCursorOf p { position := a.pst.nextSeq, mode := .follow, missed := 0 } a)
  have slb : r.slb = s.slb := (retryEvent_slb _).trans (setPort_slb s p _)
  have adv : r.adv = s.adv := (retryEvent_adv _).trans (setPort_adv s p _)
  have locks : r.locks = s.locks := same.locks.trans (setPort_locks s p _)
  obtain ⟨table, fslb, fchu, fscv, fadv, fhead1, fhead2, fsignals, fsetup, ftime⟩ := forcedRelease_rest p r
  obtain ⟨radii, zones⟩ := forcedRelease_tables p r
  have env : r.env = s.env := same.env.trans (setPort_env s p _)
  have mku : r.mku = s.mku := same.mku.trans (setPort_mku s p _)
  have answered : ∀ {α : Type} (f : State → α), (∀ t m, f (t.setPort p m) = f t) → f (emptied p s) = f (forcedRelease p r) :=
    fun f stands => stands _ _
  refine ⟨fun k => ?_, ?_, ?_, ?_, ?_, ?_, ?_, ?_, ?_, ?_, ?_, ?_, ?_, ?_⟩
  · rw [answered (fun t => t.locks) fun t m => setPort_locks t p m, ← locks]
    exact forcedRelease_holder p r k
  · rw [answered (fun t => t.pst) fun t m => setPort_pst t p m, (forcedRelease_store p r).1, store, retryEvent_contents, setCursorOf,
      show a.pst = s.pst from setPort_pst s p _]
  · rw [answered (fun t => t.env) fun t m => setPort_env t p m, radii, env]
  · rw [answered (fun t => t.env) fun t m => setPort_env t p m, zones, env]
  · rw [answered (fun t => t.mku) fun t m => setPort_mku t p m, table, mku]
  · rw [answered (fun t => t.slb) fun t m => setPort_slb t p m, fslb, slb]
  · rw [answered (fun t => t.chu) fun t m => setPort_chu t p m, fchu]; exact same.chu.trans (setPort_chu s p _)
  · rw [answered (fun t => t.scv) fun t m => setPort_scv t p m, fscv]; exact same.scv.trans (setPort_scv s p _)
  · rw [answered (fun t => t.adv) fun t m => setPort_adv t p m, fadv, adv]
  · rw [answered (fun t => t.head1) fun t m => setPort_head1 t p m, fhead1]; exact same.head1.trans (setPort_head1 s p _)
  · rw [answered (fun t => t.head2) fun t m => setPort_head2 t p m, fhead2]; exact same.head2.trans (setPort_head2 s p _)
  · rw [answered (fun t => t.signals) fun t m => setPort_signals t p m, fsignals]; exact same.signals.trans (setPort_signals s p _)
  · rw [answered (fun t => t.setup) fun t m => setPort_setup t p m, fsetup]; exact same.setup.trans (setPort_setup s p _)
  · rw [answered (fun t => t.timebase) fun t m => setPort_timebase t p m, ftime]; exact same.timebase.trans (setPort_timebase s p _)

/-- Settles O51: the emptied port, and a granted request that is completed first. -/
theorem portResetEmptiesThePort : Obligations.PortResetEmptiesThePort := by
  refine ⟨fun p s other => ?_, fun p s holder waits => portReset_completes holder waits⟩
  intro forced
  let a := afterFrame p s
  have first : finishGrant p a = a := finishGrant_other (other.imp (fun apart => by rwa [afterFrame_pst]) fun rests =>
    (portWaiting_congr (afterFrame_slot p p s)).trans rests)
  have done : exec (.portReset p) s = .next (emptied p a) := by rw [execPortReset_eq, resetPort_eq, first]
  have locks : a.locks = s.locks := afterFrame_locks p s
  have pst : a.pst = s.pst := afterFrame_pst p s
  have holds : holdsAny a p = forced := by
    rw [Bool.eq_iff_iff, holdsAny_iff, locks, decide_eq_true_iff]
    constructor
    · rintro ⟨k, held⟩
      cases k
      · exact .inl held
      · exact .inr (.inl held)
      · exact .inr (.inr held)
    · rintro (held | held | held)
      · exact ⟨.envelope, held⟩
      · exact ⟨.markers, held⟩
      · exact ⟨.setup, held⟩
  obtain ⟨free, store, radii, zones, table, slb, chu, scv, adv, head1, head2, signals, setup, time⟩ := emptied_rest p a
  rw [pst] at store
  obtain ⟨own, others, records, nextSeq⟩ := contents_setCursor_congr store
  refine ⟨_, done, ?_, fun q apart => ?_, fun k => ?_, own, others, records, nextSeq, radii.trans ?_, zones.trans ?_, table.trans ?_,
    slb.trans (afterFrame_slb p s), chu.trans (afterFrame_chu p s), scv.trans (afterFrame_scv p s), adv.trans (afterFrame_adv p s),
    head1.trans ?_, head2.trans ?_, signals.trans (afterFrame_signals p s), setup.trans (afterFrame_setup p s),
    time.trans (afterFrame_timebase p s)⟩
  · rw [emptied_port, holds]
    dsimp only
    have bit : latched .lockForced 0 = 1 <<< 18 := by decide
    have cleared : clearPort (a.port p) = { s.port p with
        link := .up 0, slot := .idle, latch := 0, eventEnable := 0, signalEnable := 0, table := .setup, index := 0,
        sdo := [statusByte s p] } := by cases p <;> rfl
    rw [if_pos rfl, if_pos rfl, cleared, ← bit]
    cases forced <;> rfl
  · rw [emptied_port, holds]
    dsimp only
    rw [if_neg apart, if_neg apart]
    have stands : a.port q = s.port q := (setPort_port s p q _).trans (if_neg apart)
    rw [stands]
    cases forced <;> rfl
  · rw [free, locks]
  · rw [afterFrame_env]
  · rw [afterFrame_env]
  · rw [afterFrame_mku]
  · cases p <;> rfl
  · cases p <;> rfl

/-! ## SOFT RESET (O52) -/

/-- A head after a SOFT RESET: OFF at its maximum rate, or POWERING if it is enabled (R24, R181). -/
def softStart (u : HeadSetup) : HeadReceiver :=
  if u.enable then { softHead u with state := .powering, settleTimer := some Config.settleUs } else softHead u

/-- A head that a SOFT RESET left OFF enters POWERING if it is enabled (R24). -/
theorem powerIfEnabled_soft {h : HeadId} {s : State} (soft : s.head h = softHead (s.setup.head h)) :
    powerIfEnabled h s =
      if (s.setup.head h).enable then raiseAll .headState (s.setHead h (softStart (s.setup.head h))) else s := by
  rw [powerIfEnabled]
  split
  · rename_i on
    rw [enterPowering_eq, soft, softStart, if_pos on]
    cases h <;> rfl
  · rfl

/-- The blocks after a SOFT RESET with both heads started, and HEAD_STATE if one of them was (R24, R181). -/
theorem softResetAll_eq (s : State) :
    softResetAll s =
      let u := { softValues s with head1 := softStart s.setup.head1, head2 := softStart s.setup.head2 }
      if s.setup.head1.enable || s.setup.head2.enable then raiseAll .headState u else u := by
  have first : powerIfEnabled .h1 (softValues s) =
      if s.setup.head1.enable then raiseAll .headState { softValues s with head1 := softStart s.setup.head1 } else softValues s :=
    powerIfEnabled_soft (h := .h1) (s := softValues s) rfl
  have off : ∀ u : HeadSetup, u.enable = false → softHead u = softStart u := fun u disabled => by
    rw [softStart, disabled, if_neg Bool.false_ne_true]
  rw [softResetAll, first]
  dsimp only
  cases enable1 : s.setup.head1.enable with
  | true =>
    rw [if_pos rfl, powerIfEnabled_soft (h := .h2) (by rfl), Bool.true_or, if_pos rfl]
    split
    · exact raiseAll_of_outstanding (s := raiseAll .headState { softValues s with
        head1 := softStart s.setup.head1, head2 := softStart s.setup.head2 }) fun p => raiseAll_outstanding _ _ p
    · rename_i disabled
      rw [← off s.setup.head2 (Bool.not_eq_true _ ▸ disabled)]
      rfl
  | false =>
    rw [if_neg Bool.false_ne_true, powerIfEnabled_soft (h := .h2) (by rfl), Bool.false_or, ← off s.setup.head1 enable1]
    by_cases enable2 : s.setup.head2.enable = true
    · rw [if_pos enable2]
      exact if_pos enable2
    · rw [if_neg enable2, ← off s.setup.head2 (Bool.not_eq_true _ ▸ enable2)]
      exact if_neg enable2

/-- A port after a SOFT RESET (R181). -/
theorem softResetAll_port (s : State) (q : PortId) :
    (softResetAll s).port q =
      { softPort (s.port q) with latch := if s.setup.head1.enable = true ∨ s.setup.head2.enable = true then 1 else 0 } := by
  have bit : latched .headState 0 = 1 := by decide
  rw [softResetAll_eq]
  dsimp only
  by_cases on : s.setup.head1.enable = true ∨ s.setup.head2.enable = true
  · rw [if_pos on, if_pos ((Bool.or_eq_true _ _).mpr on), ← bit]
    cases q <;> rfl
  · rw [if_neg on, if_neg fun either => on ((Bool.or_eq_true _ _).mp either)]
    cases q <;> rfl

/-- Settles O52: the blocks and the ports after a SOFT RESET from the holder of the SETUP lock. -/
theorem softResetKeepsTheSetup : Obligations.SoftResetKeepsTheSetup := by
  intro p s idle
  let a := afterFrame p s
  have locks : a.locks = s.locks := afterFrame_locks p s
  have setup : a.setup = s.setup := afterFrame_setup p s
  have setupLock : a.locks.setup = s.locks.setup := congrArg LockTable.setup locks
  refine ⟨fun other => congrArg Host.Outcome.next ?_, fun holder => ?_⟩
  · refine plainRequest_unchanged (r := bare .lockRequired) idle 0x0F ?_
    rw [softResetRequest, needsSetup_other (by rw [setupLock]; exact other)]
  · have done : exec (.softReset p) s = .next (withAnswer p .ok 0x0F [] (softResetAll a)) := by
      refine congrArg Host.Outcome.next ((plainRequest_idle idle 0x0F (softResetRequest p)).trans ?_)
      rw [softResetRequest, needsSetup_holder (setupLock.trans holder)]
      rfl
    have reset := softResetAll_eq a
    dsimp only at reset
    have field : ∀ {α : Type} (f : State → α), (∀ t m, f (t.setPort p m) = f t) → (∀ t, f (raiseAll .headState t) = f t) →
        f (withAnswer p .ok 0x0F [] (softResetAll a)) =
          f { softValues a with head1 := softStart a.setup.head1, head2 := softStart a.setup.head2 } := fun f port raised => by
      refine (port (softResetAll a) _).trans ?_
      rw [reset]
      split
      · exact raised _
      · rfl
    refine ⟨_, done, ?_, ?_, ?_, ?_, ?_, fun h => ?_, ?_, ?_, ?_, ?_, ?_, ?_, ?_, ?_, ?_, fun q => ?_⟩
    · exact (field State.setup (fun t m => setPort_setup t p m) fun _ => rfl).trans setup
    · exact (field State.timebase (fun t m => setPort_timebase t p m) fun _ => rfl).trans (afterFrame_timebase p s)
    · exact field State.windowTime (fun t m => setPort_windowTime t p m) fun _ => rfl
    · exact field State.conversionTime (fun t m => setPort_conversionTime t p m) fun _ => rfl
    · exact field State.nextChannel (fun t m => setPort_nextChannel t p m) fun _ => rfl
    · refine (field (fun t => t.head h) (fun t m => setPort_head t p m h) fun t => raiseAll_head _ t h).trans ?_
      rw [← setup]
      cases h <;> rfl
    · exact field State.scv (fun t m => setPort_scv t p m) fun _ => rfl
    · refine (field State.chu (fun t m => setPort_chu t p m) fun _ => rfl).trans ?_
      rw [show s.chu = a.chu from (afterFrame_chu p s).symm]
      rfl
    · exact field State.slb (fun t m => setPort_slb t p m) fun _ => rfl
    · exact field State.pst (fun t m => setPort_pst t p m) fun _ => rfl
    · refine (field State.adv (fun t m => setPort_adv t p m) fun _ => rfl).trans ?_
      rw [← setup]
      rfl
    · exact field State.locks (fun t m => setPort_locks t p m) fun _ => rfl
    · exact field State.signals (fun t m => setPort_signals t p m) fun _ => rfl
    · refine (field State.mku (fun t m => setPort_mku t p m) fun _ => rfl).trans ?_
      rw [← locks, show s.mku = a.mku from (afterFrame_mku p s).symm]
      rfl
    · refine (field State.env (fun t m => setPort_env t p m) fun _ => rfl).trans ?_
      rw [← locks, show s.env = a.env from (afterFrame_env p s).symm]
      rfl
    · rw [← setup]
      have slotted : (withAnswer p .ok 0x0F [] (softResetAll a)).port q =
          if q = p then { (softResetAll a).port q with slot := .ready { status := .ok, echo := 0x0F, payload := [] } }
          else (softResetAll a).port q := by
        refine (setPort_port _ p q _).trans ?_
        split
        · rename_i own; rw [own]
        · rfl
      rw [slotted, softResetAll_port]
      by_cases own : q = p
      · subst own
        simp only [if_true, true_or]
        cases q <;> rfl
      · have stands : a.port q = s.port q := (setPort_port s p q _).trans (if_neg own)
        simp only [own, false_or, stands]
        rfl

/-! ## The device reset (O53) -/

/-- Settles O53: the reset values as they are written, and each invariant of the blocks at rest. -/
theorem deviceResetLeavesASoundState : Obligations.DeviceResetLeavesASoundState := by
  intro left right s
  refine ⟨rfl, ?_, rfl⟩
  intro t
  refine ⟨⟨rfl, rfl, rfl, rfl, rfl, fun h => ?_, rfl, rfl, rfl, rfl, rfl, rfl, rfl, rfl, rfl, rfl, rfl, rfl, rfl, rfl, rfl, rfl, rfl,
    rfl, rfl, rfl, rfl, rfl, rfl, fun p => ?_, fun k => ?_, rfl, rfl, rfl, rfl, rfl, rfl, rfl, rfl⟩, fun k p held => ?_,
    storeSound_reset, queueSound_empty rfl rfl RunState.noConfusion, commitSound_of_empty rfl rfl fun p => ?_, ⟨Nat.zero_le _, fun e member => ?_⟩,
    fun h => ?_, setupSound_reset, adviceSound_atRest rfl rfl (show 1 ≤ 2000 by decide)⟩
  · cases h <;> exact ⟨rfl, rfl, rfl, rfl, rfl, rfl, rfl, rfl, rfl, rfl⟩
  · cases p <;> exact ⟨rfl, rfl, rfl, rfl, rfl, rfl, rfl, rfl, rfl⟩
  · cases k <;> rfl
  · cases k <;> cases held
  · cases p <;> rfl
  · have blank : t.mku.table.toList = List.replicate 256 MarkerEntry.reset := Vector.toList_replicate
    rw [blank] at member
    rw [List.eq_of_mem_replicate member]
    exact Nat.zero_le _
  · cases h <;> exact headSound_off _

end Sys2Proof.Machine

/-! PROOF. Tables: O47 to O49. -/

namespace Sys2Proof.Machine

/-! ## The table pointer is no part of a write

TABLE WRITE stores its entry and then advances the pointer. Nothing that a write leads to looks at the pointer, so the write may as well
find it advanced. -/

section
variable {g : MasterPort → MasterPort} (aside : Aside g) (p : PortId) (s : State)
include aside

theorem closeRearmost_atPort (kind : CloseKind) : closeRearmost kind (atPort p g s) = atPort p g (closeRearmost kind s) := by
  have closed : ∀ x, closedSlice kind (atPort p g s) x = closedSlice kind s x := fun x => by cases p <;> rfl
  have told : ∀ c stop t, reportClass c stop (atPort p g t) = atPort p g (reportClass c stop t) := fun c stop t => by
    have latch : { atPort p g t with adv := { (atPort p g t).adv with stopLatch := true, lastStop := .set } } =
        atPort p g { t with adv := { t.adv with stopLatch := true, lastStop := .set } } := by cases p <;> rfl
    unfold reportClass
    rw [latch, raiseAll_atPort aside, evaluateAdvice_atPort aside, atPort_setup, atPort_adv]
    split <;> rfl
  have appended : ∀ c rest, appendPending c rest (atPort p g s) = atPort p g (appendPending c rest s) := fun c rest => by
    have queued : ∀ b, { atPort p g s with slb := b } = atPort p g { s with slb := b } := fun b => by cases p <;> rfl
    simp only [appendPending, queued, evaluateAdvice_atPort aside, askCommit_atPort aside, atPort_slb]
    split <;> rfl
  simp only [closeRearmost, atPort_slb]
  split
  · rfl
  · simp only [closed, appended, told]

theorem closeMany_atPort (kind : CloseKind) (n : Nat) : closeMany kind n (atPort p g s) = atPort p g (closeMany kind n s) := by
  induction n generalizing s with
  | zero => rfl
  | succ n ih => rw [closeMany, closeMany, closeRearmost_atPort aside, ih]

theorem flush_atPort : flush (atPort p g s) = atPort p g (flush s) := by rw [flush, flush, atPort_slb, closeMany_atPort aside]

theorem closeTest_atPort : closeTest (atPort p g s) = atPort p g (closeTest s) := by
  have passed : passedByAll (atPort p g s) = passedByAll s := funext fun x => by cases p <;> rfl
  have noted : ∀ t, noteTest (atPort p g t) = atPort p g (noteTest t) := fun t => by cases p <;> rfl
  have tested : closeTestFrom s.slb.openSlices.length (atPort p g s) =
      atPort p g (closeTestFrom s.slb.openSlices.length s) := by
    rw [closeTestFrom_eq (Nat.le_refl _), closeTestFrom_eq (by rw [atPort_slb]), atPort_slb, passed, closeMany_atPort aside]
  simp only [closeTest, atPort_slb, tested, noted]
  split <;> rfl

theorem lockedHeadChange_atPort : lockedHeadChange (atPort p g s) = atPort p g (lockedHeadChange s) := by
  have any : ∀ t, anyLocked (atPort p g t) = anyLocked t := fun t => by cases p <;> rfl
  simp only [lockedHeadChange, evaluateAdvice_atPort aside, atPort_slb, any, closeTest_atPort aside, flush_atPort aside]
  split
  · split <;> rfl
  · rfl

theorem headEnableWritten_atPort (h : HeadId) (on : Bool) :
    headEnableWritten h on (atPort p g s) = atPort p g (headEnableWritten h on s) := by
  have head : ∀ t h, (atPort p g t).head h = t.head h := fun t h => by cases p <;> cases h <;> rfl
  have setHead : ∀ t h r, (atPort p g t).setHead h r = atPort p g (t.setHead h r) := fun t h r => by cases p <;> cases h <;> rfl
  have enters : ∀ t dest, enterState h dest (atPort p g t) = atPort p g (enterState h dest t) := fun t dest => by
    simp only [enterState, head, setHead, raiseAll_atPort aside]
    split <;> split
    · rfl
    · rfl
    · exact lockedHeadChange_atPort aside _ _
    · exact lockedHeadChange_atPort aside _ _
  simp only [headEnableWritten, enterPowering, enterOff, dropRevolution, head, setHead, enters, atPort_setup]
  split
  · split <;> rfl
  · rfl

/-- A write of a setup entry, but one of the LINK_TIMEOUT of the changed port. -/
theorem setupWritten_atPort {e : SetupEntry} (apart : e ≠ .linkTimeout p) (v : Int) :
    setupWritten e v (atPort p g s) = atPort p g (setupWritten e v s) := by
  cases e with
  | headEnable h => simp only [setupWritten, evaluateAdvice_atPort aside, headEnableWritten_atPort aside]
  | encK => cases p <;> rfl
  | linkTimeout q =>
    have other : q ≠ p := fun same => apart (congrArg _ same)
    have expired : linkExpired q (atPort p g s) = linkExpired q s := by
      rw [linkExpired, atPort_setup, atPort, setPort_port, if_neg other, linkExpired]
    simp only [setupWritten, linkTimeoutWritten, expired, linkDown_atPort aside p s other]
    split <;> rfl
  | vCfg => exact evaluateAdvice_atPort aside p s
  | vCrawl => exact evaluateAdvice_atPort aside p s
  | storeHigh => exact evaluateAdvice_atPort aside p s
  | minRevs => exact evaluateAdvice_atPort aside p s
  | _ => rfl

end

/-- The table pointer of a port stands at an index of a table. -/
def pointing (p : PortId) (x : Table) (k : Nat) (s : State) : State := atPort p (fun m => { m with table := x, index := k }) s

theorem aside_pointer (x : Table) (k : Nat) : Aside fun m => { m with table := x, index := k } :=
  ⟨fun _ => rfl, fun _ => rfl, fun _ _ => rfl, fun _ _ => rfl⟩

theorem pointing_self (p : PortId) (s : State) : pointing p (s.port p).table (s.port p).index s = s := by cases p <;> rfl

theorem pointing_port (p : PortId) (x : Table) (k : Nat) (s : State) :
    (pointing p x k s).port p = { s.port p with table := x, index := k } := by cases p <;> rfl

/-- A write whose effect is carried to another state. -/
def WriteOutcome.map (f : State → State) : WriteOutcome → WriteOutcome
  | .badValue => .badValue
  | .written clamped s => .written clamped (f s)

/-- After a frame the time since the port's last valid frame has not run out (R171). -/
theorem linkExpired_fresh {p : PortId} {s : State} (fresh : (s.port p).link = .up 0) : linkExpired p s = false := by
  rw [linkExpired_of_up fresh]
  simp only [Bool.and_eq_false_iff, decide_eq_false_iff_not]
  omega

theorem linkTimeoutWritten_fresh {p : PortId} {s : State} (fresh : (s.port p).link = .up 0) : linkTimeoutWritten p s = s := by
  rw [linkTimeoutWritten, if_neg (by rw [linkExpired_fresh fresh]; exact Bool.false_ne_true)]

theorem setupWritten_pointing {e : SetupEntry} {p : PortId} {s : State} (fresh : (s.port p).link = .up 0) (x : Table) (k : Nat) (v : Int) :
    setupWritten e v (pointing p x k s) = pointing p x k (setupWritten e v s) := by
  by_cases own : e = .linkTimeout p
  · subst own
    have stands : ((pointing p x k s).port p).link = .up 0 := by rw [pointing_port]; exact fresh
    simp only [setupWritten, linkTimeoutWritten_fresh fresh, linkTimeoutWritten_fresh stands]
  · exact setupWritten_atPort (aside_pointer x k) p s own v

/-- A write finds the pointer advanced, or the pointer is advanced behind it. -/
theorem writeEntry_pointing {p : PortId} {s : State} (fresh : (s.port p).link = .up 0) (x : Table) (k : Nat) (t : Table) (i : Nat)
    (entry : List Byte) : writeEntry t i entry (pointing p x k s) = (writeEntry t i entry s).map (pointing p x k) := by
  cases t with
  | setup =>
    have setup : (pointing p x k s).setup = s.setup := setPort_setup s p _
    have stored : ∀ e v u, setupWritten e v { pointing p x k s with setup := u } =
        pointing p x k (setupWritten e v { s with setup := u }) := fun e v u => by
      have same : { pointing p x k s with setup := u } = pointing p x k { s with setup := u } := by cases p <;> rfl
      rw [same, setupWritten_pointing (s := { s with setup := u }) (by cases p <;> exact fresh)]
    simp only [writeEntry, writeSetup, setup, stored]
    split
    · rfl
    · split <;> rfl
    · rfl
  | profiles => cases p <;> rfl
  | zones =>
    have env : (pointing p x k s).env = s.env := setPort_env s p _
    have stored : ∀ e, { pointing p x k s with env := e } = pointing p x k { s with env := e } := fun e => by cases p <;> rfl
    simp only [writeEntry, writeZone, env, stored]
    split
    · rfl
    · split
      · rfl
      · split
        · rfl
        · split <;> rfl
  | markers =>
    have mku : (pointing p x k s).mku = s.mku := setPort_mku s p _
    have stored : ∀ m, { pointing p x k s with mku := m } = pointing p x k { s with mku := m } := fun m => by cases p <;> rfl
    simp only [writeEntry, writeMarker, mku, stored]
    split <;> rfl

/-- A write leaves the pointer. -/
theorem writeEntry_pointer {p : PortId} {s u : State} {t : Table} {i : Nat} {entry : List Byte} {clamped : Bool}
    (fresh : (s.port p).link = .up 0) (written : writeEntry t i entry s = .written clamped u) :
    (u.port p).table = (s.port p).table ∧ (u.port p).index = (s.port p).index := by
  have same := writeEntry_pointing fresh (s.port p).table (s.port p).index t i entry
  rw [pointing_self, written] at same
  obtain ⟨-, stands⟩ := WriteOutcome.written.inj same
  have port := congrArg (fun v => v.port p) stands
  rw [pointing_port] at port
  exact ⟨(congrArg MasterPort.table port :), (congrArg MasterPort.index port :)⟩

/-! ## Findings, in order (R178) -/

/-- What a write answers and leaves. -/
def WriteOutcome.reply (s : State) : WriteOutcome → State × Reply
  | .badValue => (s, bare .badValue)
  | .written clamped u => (u, bare (if clamped then .clamped else .ok))

/-- The pointer's index after a write that was taken. -/
def nextIndex (mode : Byte) (k : Nat) : Nat := if mode.toNat = 0 then k else k + 1

theorem advanceOf_none_iff (b : Byte) : advanceOf b = none ↔ 2 < b.toNat := by
  unfold advanceOf
  generalize b.toNat = n
  rcases n with _ | _ | _ | n <;> simp

theorem advanceOf_zero_iff {b : Byte} {m : Advance} (known : advanceOf b = some m) : m = .none ↔ b.toNat = 0 := by
  unfold advanceOf at known
  generalize b.toNat = n at known ⊢
  rcases n with _ | _ | _ | n <;> cases known <;> simp

theorem tableWriteRequest_judged {p : PortId} {s : State} (fresh : (s.port p).link = .up 0) (mode : Byte) (entry : List Byte) :
    tableWriteRequest p mode entry s =
      let t := (s.port p).table
      let k := (s.port p).index
      if entry.length < 2 ∨ 14 < entry.length then (s, bare .badLength)
      else if 2 < mode.toNat then (s, bare .badValue)
      else if lastIndex t < k then (s, bare .indexRange)
      else if entry.length ≠ entryLength t k then (s, bare .badLength)
      else if s.locks.holder (tableLock t) ≠ some p then (s, bare .lockRequired)
      else if t = .setup ∧ runFixed (setupEntryOf k) = true ∧ s.slb.run ≠ .idle then (s, bare .runActive)
      else (writeEntry t k entry (pointing p t (nextIndex mode k) s)).reply s := by
  unfold tableWriteRequest
  by_cases size : entry.length < 2 ∨ 14 < entry.length
  · rw [if_neg (by omega), if_pos size]
  rw [if_pos (by omega), if_neg size, writeTable]
  cases known : advanceOf mode with
  | none => rw [if_pos ((advanceOf_none_iff mode).1 known)]
  | some m =>
    have inRange : ¬ 2 < mode.toNat := fun above => by rw [(advanceOf_none_iff mode).2 above] at known; cases known
    simp only [if_neg inRange]
    by_cases beyond : lastIndex (s.port p).table < (s.port p).index
    · simp only [if_pos beyond]
    have lock : holds s p (tableLock (s.port p).table) = false ↔ s.locks.holder (tableLock (s.port p).table) ≠ some p := by
      simp [holds]
    have fixed : fixedByRun s (s.port p).table (s.port p).index = true ↔
        (s.port p).table = .setup ∧ runFixed (setupEntryOf (s.port p).index) = true ∧ s.slb.run ≠ .idle := by
      simp [fixedByRun, and_assoc]
    simp only [if_neg beyond, lock, fixed, writeEntry_pointing fresh]
    refine if_congr Iff.rfl rfl (if_congr Iff.rfl rfl (if_congr Iff.rfl rfl ?_))
    cases written : writeEntry (s.port p).table (s.port p).index entry s with
    | badValue => rfl
    | written clamped u =>
      obtain ⟨table, index⟩ := writeEntry_pointer fresh written
      refine Prod.ext ?_ rfl
      have advanced : advancePointer p u = pointing p (s.port p).table ((s.port p).index + 1) u := by
        rw [advancePointer, table, index, Nat.min_eq_right (by omega), pointing, atPort, ← table]
      have stays : pointing p (s.port p).table (s.port p).index u = u := by rw [← table, ← index, pointing_self]
      dsimp only [WriteOutcome.map, WriteOutcome.reply]
      simp only [nextIndex, ← advanceOf_zero_iff known, advanced]
      split
      · exact stays.symm
      · rfl

/-- What a request of any row of the table leaves (log entry 11). -/
theorem exec_tableWrites {p : PortId} {mode : Byte} {entry : List Byte} {c : Instr} (row : c ∈ tableWrites p mode entry) (s : State) :
    exec c s = .next (plainRequest p 0x0C (tableWriteRequest p mode entry) s) := by
  simp only [tableWrites, List.mem_cons, List.not_mem_nil, or_false] at row
  rcases row with rfl | rfl | rfl | rfl | rfl | rfl | rfl | rfl <;> rfl

/-! ## What a write keeps -/

theorem headEnableWritten_headsMask (h : HeadId) (on : Bool) (s : State) : headsMask (headEnableWritten h on s) = headsMask s := by
  unfold headEnableWritten
  split
  · split
    · exact enterPowering_headsMask h s
    · rfl
  · exact enterOff_headsMask h s

/-- A link that goes DOWN frees its port's locks, and leaves the time and the position (R171, R174). -/
theorem linkDown_keeps (q : PortId) (s : State) :
    (linkDown q s).timebase = s.timebase ∧ (linkDown q s).chu = s.chu ∧
      ∀ k, (linkDown q s).locks.holder k = if s.locks.holder k = some q then none else s.locks.holder k := by
  let d := s.setPort q { s.port q with link := .down }
  obtain ⟨-, -, chu, -, -, -, -, -, -, time⟩ := forcedRelease_rest q d
  have demoted := (demoteCursor_rest q (forcedRelease q d)).1
  refine ⟨?_, ?_, fun k => ?_⟩
  · exact demoted.timebase.trans (time.trans (setPort_timebase s q _))
  · exact demoted.chu.trans (chu.trans (setPort_chu s q _))
  · have free := forcedRelease_holder q d k
    rw [show d.locks = s.locks from setPort_locks s q _] at free
    exact (congrArg (fun l : LockTable => l.holder k) demoted.locks).trans free

theorem linkExpired_up {q : PortId} {s : State} (expired : linkExpired q s = true) : linkUp (s.port q) = true := by
  cases link : (s.port q).link with
  | down => rw [linkExpired_of_down link] at expired; cases expired
  | up n => exact (linkUp_iff _).2 ⟨n, link⟩

/-- What any taken write keeps; only one of LINK_TIMEOUT of another port can free locks (R171, R174). -/
theorem setupWritten_keeps {p : PortId} {s : State} (fresh : (s.port p).link = .up 0) (e : SetupEntry) (v : Int) :
    (setupWritten e v s).timebase = s.timebase ∧ (setupWritten e v s).chu.chainage = s.chu.chainage ∧
      ∀ j, (setupWritten e v s).locks.holder j = s.locks.holder j ∨
        ∃ q, e = .linkTimeout q ∧ q ≠ p ∧ linkUp (s.port q) = true ∧ s.locks.holder j = some q ∧
          (setupWritten e v s).locks.holder j = none := by
  have kept : ∀ (u : State) (other : Lock → Prop), headsMask u = headsMask (evaluateAdvice s) →
      u.timebase = s.timebase ∧ u.chu.chainage = s.chu.chainage ∧
        ∀ j, u.locks.holder j = s.locks.holder j ∨ other j := fun u other masked => by
    have evaluated := evaluateAdvice_same s
    have field : ∀ {α : Type} (f : State → α), f (headsMask u) = f (headsMask (evaluateAdvice s)) := fun f => congrArg f masked
    exact ⟨(field State.timebase).trans evaluated.timebase,
      congrArg ChainageUnit.chainage ((field State.chu).trans evaluated.chu),
      fun j => .inl (congrArg (fun l : LockTable => l.holder j) ((field State.locks).trans evaluated.locks))⟩
  cases e with
  | headEnable h => exact kept _ _ (headEnableWritten_headsMask h (decide (v = 1)) (evaluateAdvice s))
  | linkTimeout q =>
    by_cases expired : linkExpired q s = true
    · have down : setupWritten (.linkTimeout q) v s = linkDown q s := if_pos expired
      have other : q ≠ p := fun same => by
        rw [same, linkExpired_fresh fresh] at expired
        cases expired
      obtain ⟨time, chu, free⟩ := linkDown_keeps q s
      rw [down]
      refine ⟨time, by rw [chu], fun j => ?_⟩
      rw [free]
      by_cases held : s.locks.holder j = some q
      · exact .inr ⟨q, rfl, other, linkExpired_up expired, held, if_pos held⟩
      · exact .inl (if_neg held)
    · have stays : setupWritten (.linkTimeout q) v s = s := if_neg expired
      rw [stays]
      exact ⟨rfl, rfl, fun _ => .inl rfl⟩
  | vCfg => exact kept _ _ rfl
  | vCrawl => exact kept _ _ rfl
  | storeHigh => exact kept _ _ rfl
  | minRevs => exact kept _ _ rfl
  | _ => exact ⟨rfl, rfl, fun _ => .inl rfl⟩

theorem writeEntry_keeps {p : PortId} {s u : State} {t : Table} {i : Nat} {entry : List Byte} {clamped : Bool}
    (fresh : (s.port p).link = .up 0) (written : writeEntry t i entry s = .written clamped u) :
    u.timebase = s.timebase ∧ u.chu.chainage = s.chu.chainage ∧
      ∀ j, u.locks.holder j = s.locks.holder j ∨
        ∃ q, t = .setup ∧ setupEntryOf i = .linkTimeout q ∧ q ≠ p ∧ linkUp (s.port q) = true ∧ s.locks.holder j = some q ∧
          u.locks.holder j = none := by
  cases t with
  | setup =>
    obtain ⟨v, x, rfl⟩ : ∃ v x, u = setupWritten (setupEntryOf i) v { s with setup := x } := by
      simp only [writeEntry, writeSetup] at written
      split at written
      · exact ⟨_, _, (WriteOutcome.written.inj written).2.symm⟩
      · split at written
        · exact ⟨_, _, (WriteOutcome.written.inj written).2.symm⟩
        · cases written
      · exact ⟨_, _, (WriteOutcome.written.inj written).2.symm⟩
    obtain ⟨time, chu, locks⟩ :=
      setupWritten_keeps (s := { s with setup := x }) (p := p) (by cases p <;> exact fresh) (setupEntryOf i) v
    refine ⟨time, chu, fun j => (locks j).imp_right fun ⟨q, entry, apart, up, held, freed⟩ =>
      ⟨q, rfl, entry, apart, ?_, held, freed⟩⟩
    cases q <;> exact up
  | profiles =>
    obtain ⟨-, rfl⟩ := WriteOutcome.written.inj written
    exact ⟨rfl, rfl, fun _ => .inl rfl⟩
  | zones =>
    simp only [writeEntry, writeZone] at written
    split at written
    · cases written
    · split at written
      · cases written
      · split at written
        · obtain ⟨-, rfl⟩ := WriteOutcome.written.inj written
          exact ⟨rfl, rfl, fun _ => .inl rfl⟩
        · split at written
          · cases written
          · obtain ⟨-, rfl⟩ := WriteOutcome.written.inj written
            exact ⟨rfl, rfl, fun _ => .inl rfl⟩
  | markers =>
    simp only [writeEntry, writeMarker] at written
    split at written
    · obtain ⟨-, rfl⟩ := WriteOutcome.written.inj written
      exact ⟨rfl, rfl, fun _ => .inl rfl⟩
    · cases written

/-! ## TABLE WRITE is judged in order (O48) -/

/-- A setup entry outside its set is refused. -/
theorem writeSetup_badValue_iff (i : Nat) (entry : List Byte) (s : State) :
    writeSetup i entry s = .badValue ↔ ∃ codes, entryRange (setupEntryOf i) = .oneOf codes ∧ intOf entry ∉ codes := by
  simp only [writeSetup]
  split
  · simp [*]
  · simp [*]
  · simp [*]

theorem withAnswer_port (p : PortId) (st : Status) (echo : Byte) (payload : List Byte) (s : State) :
    (withAnswer p st echo payload s).port p = { s.port p with slot := .ready { status := st, echo := echo, payload := payload } } := by
  cases p <;> rfl

/-- Settles O48: the request by its first finding, and what a taken write keeps. -/
theorem tableWritesAreJudgedInOrder : Obligations.TableWritesAreJudgedInOrder := by
  intro p mode entry c s row idle t k e outside
  let a := afterFrame p s
  have port : a.port p = { s.port p with link := .up 0, sdo := [statusByte s p] } := by cases p <;> rfl
  have fresh : (a.port p).link = .up 0 := by rw [port]
  have table : (a.port p).table = t := by rw [port]
  have index : (a.port p).index = k := by rw [port]
  have locks : a.locks = s.locks := afterFrame_locks p s
  have slb : a.slb = s.slb := afterFrame_slb p s
  have judged := tableWriteRequest_judged fresh mode entry
  simp only [table, index, locks, slb] at judged
  have request := exec_tableWrites row s
  have refused : ∀ st, tableWriteRequest p mode entry a = (a, bare st) → exec c s = .next (onlyAnswer p st 0x0C [] s) :=
    fun st same => request.trans (congrArg _ (plainRequest_unchanged (r := bare st) idle 0x0C same))
  by_cases size : entry.length < 2 ∨ 14 < entry.length
  · rw [if_pos size] at judged ⊢; exact refused _ judged
  rw [if_neg size] at judged ⊢
  by_cases above : 2 < mode.toNat
  · rw [if_pos above] at judged ⊢; exact refused _ judged
  rw [if_neg above] at judged ⊢
  by_cases beyond : lastIndex t < k
  · rw [if_pos beyond] at judged ⊢; exact refused _ judged
  rw [if_neg beyond] at judged ⊢
  by_cases length : entry.length ≠ entryLength t k
  · rw [if_pos length] at judged ⊢; exact refused _ judged
  rw [if_neg length] at judged ⊢
  by_cases free : s.locks.holder (tableLock t) ≠ some p
  · rw [if_pos free] at judged ⊢; exact refused _ judged
  rw [if_neg free] at judged ⊢
  by_cases fixed : t = .setup ∧ runFixed e = true ∧ s.slb.run ≠ .idle
  · rw [if_pos fixed] at judged ⊢; exact refused _ judged
  rw [if_neg fixed] at judged ⊢
  have answered : ∀ u r, tableWriteRequest p mode entry a = (u, bare r) → exec c s = .next (withAnswer p r 0x0C [] u) :=
    fun u r same => by
      rw [request, plainRequest_idle idle, same]
      rfl
  let w := writeEntry t k entry (pointing p t (nextIndex mode k) a)
  have set : outside = true ↔ ∃ codes, entryRange e = .oneOf codes ∧ intOf entry ∉ codes := by
    simp only [outside]
    split
    · simp [*]
    · rename_i other
      exact ⟨fun never => absurd never Bool.false_ne_true, fun ⟨codes, range, _⟩ => (other codes range).elim⟩
  by_cases outOfSet : t = .setup ∧ outside = true
  · rw [if_pos outOfSet]
    have bad : w = .badValue := by
      simp only [w, outOfSet.1, writeEntry]
      exact (writeSetup_badValue_iff _ _ _).2 (set.1 outOfSet.2)
    exact refused .badValue (judged.trans (congrArg (WriteOutcome.reply a) bad))
  rw [if_neg outOfSet]
  cases outcome : w with
  | badValue =>
    refine ⟨_, answered a .badValue (judged.trans (congrArg (WriteOutcome.reply a) outcome)), fun j => .inl ?_, ?_, ?_, ?_,
      .inl ⟨by rw [withAnswer_port], ?_⟩⟩
    · rw [withAnswer, setSlot_locks, locks]
    · rw [withAnswer, setSlot_timebase, afterFrame_timebase]
    · rw [withAnswer, setSlot_chu, afterFrame_chu]
    · rw [withAnswer_port]; exact table
    · rw [withAnswer_port]; exact index
  | written clamped u =>
    have found : (pointing p t (nextIndex mode k) a).port p = { a.port p with table := t, index := nextIndex mode k } :=
      pointing_port p t _ a
    have sameLocks : (pointing p t (nextIndex mode k) a).locks = s.locks := (atPort_locks p a).trans locks
    obtain ⟨time, chainage, freed⟩ := writeEntry_keeps (by rw [found]; exact fresh) outcome
    obtain ⟨sameTable, sameIndex⟩ := writeEntry_pointer (by rw [found]; exact fresh) outcome
    rw [found] at sameTable sameIndex
    refine ⟨_, answered u _ (judged.trans (congrArg (WriteOutcome.reply a) outcome)), fun j => ?_, ?_, ?_, ?_,
      .inr ⟨?_, ?_⟩⟩
    · rw [withAnswer, setSlot_locks, ← sameLocks]
      refine (freed j).imp_right fun ⟨q, setup, entry, apart, up, held, gone⟩ =>
        ⟨q, setup, entry, apart, ?_, held, gone⟩
      have other : (pointing p t (nextIndex mode k) a).port q = s.port q := by
        rw [pointing, atPort, setPort_port, if_neg apart]
        exact (setPort_port s p q _).trans (if_neg apart)
      rwa [other] at up
    · rw [withAnswer, setSlot_timebase, time]; exact (setPort_timebase a p _).trans (afterFrame_timebase p s)
    · rw [withAnswer, setSlot_chu, chainage]
      exact congrArg ChainageUnit.chainage ((setPort_chu a p _).trans (afterFrame_chu p s))
    · rw [withAnswer_port]; exact sameTable
    · rw [withAnswer_port]
      cases clamped
      · exact .inl rfl
      · exact .inr rfl
    · rw [withAnswer_port]; exact sameIndex

end Sys2Proof.Machine

/-! PROOF. What TABLE POINT and TABLE READ answer, and what a TABLE WRITE stores: O47 and O49. -/

namespace Sys2Proof.Machine

/-! ## TABLE POINT and TABLE READ (O47) -/

/-- The entries of SETUP, in the order of Table 11-12. -/
def setupValues (u : Setup) : List Int := (List.range 43).map fun j => setupValue u (setupEntryOf j)

theorem setupValues_getElem? {u : Setup} {j : Nat} {v : Int} (found : (setupValues u)[j]? = some v) :
    j < 43 ∧ v = setupValue u (setupEntryOf j) := by
  rw [setupValues, List.getElem?_map, Option.map_eq_some_iff] at found
  obtain ⟨i, place, rfl⟩ := found
  obtain ⟨inside, rfl⟩ := List.getElem?_eq_some_iff.1 place
  rw [List.length_range] at inside
  rw [List.getElem_range]
  exact ⟨inside, rfl⟩

theorem entryLength_setup : ∀ j < 43, entryLength .setup j = if j = 6 ∨ j = 14 then 8 else 4 := by decide

theorem entryBytes_length (s : State) (t : Table) (k : Nat) : (entryBytes s t k).length = entryLength t k := by
  have zone : ∀ a b c d e f g, (zoneBytes a b c d e f g).length = 14 := fun a b c d e f g => by
    simp only [zoneBytes, List.length_append, bytesOf_length]
  cases t with
  | setup => exact bytesOf_length _ _
  | profiles => exact bytesOf_length _ _
  | zones =>
    simp only [entryBytes, zoneEntryBytes]
    split <;> exact zone _ _ _ _ _ _ _
  | markers => simp only [entryBytes, markerBytes, List.length_append, bytesOf_length, entryLength]

theorem tableOf_above {b : Byte} (above : 3 < b.toNat) : tableOf b = none := by
  unfold tableOf
  generalize b.toNat = n at above
  rcases n with _ | _ | _ | _ | n
  · omega
  · omega
  · omega
  · omega
  · rfl

theorem advanceOf_known {b : Byte} (known : b.toNat ≤ 2) : ∃ m, advanceOf b = some m :=
  Option.ne_none_iff_exists'.1 fun none => Nat.not_lt.2 known ((advanceOf_none_iff b).1 none)

theorem advanceOf_one_iff {b : Byte} {m : Advance} (known : advanceOf b = some m) : m = .afterAny ↔ b.toNat = 1 := by
  unfold advanceOf at known
  generalize b.toNat = n at known ⊢
  rcases n with _ | _ | _ | n <;> cases known <;> simp

/-- Settles O47: the pointer is set or refused, and a read answers the bytes of its entry. -/
theorem tablesArePointedAndRead : Obligations.TablesArePointedAndRead := by
  intro p b i s idle a t k
  have port : a.port p = { s.port p with link := .up 0, sdo := [statusByte s p] } := by cases p <;> rfl
  have table : (a.port p).table = t := by rw [port]
  have index : (a.port p).index = k := by rw [port]
  have point : ∀ u r, pointTable p b i a = (u, bare r) → exec (.tablePoint p b i) s = .next (withAnswer p r 0x0A [] u) :=
    fun u r same => congrArg Host.Outcome.next ((plainRequest_idle idle 0x0A (pointTable p b i)).trans (by rw [same]; rfl))
  have read : ∀ u r bytes, readTable p b a = (u, { status := r, payload := bytes }) →
      exec (.tableRead p b) s = .next (withAnswer p r 0x0B bytes u) := fun u r bytes same =>
    congrArg Host.Outcome.next ((plainRequest_idle idle 0x0B (readTable p b)).trans (by rw [same]))
  refine ⟨fun above => ?_, fun x known => ⟨fun beyond => ?_, fun inside => ?_⟩, fun above => ?_, fun known beyond => ?_,
    fun known inside => ⟨entryBytes_length s t k, ?_⟩, ?_⟩
  · exact point a .badValue (by rw [pointTable, tableOf_above above])
  · exact point a .indexRange (by rw [pointTable, known]; exact if_pos beyond)
  · exact point _ .ok (by rw [pointTable, known]; exact if_neg (by omega))
  · exact read a .badValue [] (by rw [readTable, (advanceOf_none_iff b).2 above]; rfl)
  · obtain ⟨m, mode⟩ := advanceOf_known known
    refine read a .indexRange [] ?_
    rw [readTable, mode]
    exact if_pos (by rwa [table, index])
  · obtain ⟨m, mode⟩ := advanceOf_known known
    refine read _ .ok _ ?_
    have advanced : advancePointer p a = a.setPort p { a.port p with index := k + 1 } := by
      rw [advancePointer, table, index, Nat.min_eq_right (by omega)]
    have stays : a = a.setPort p { a.port p with index := k } := by
      rw [← index]; cases p <;> rfl
    have bytes : entryBytes a t k = entryBytes s t k := by cases p <;> rfl
    rw [readTable, mode]
    simp only [table, index, bytes, if_neg (Nat.not_lt.2 inside), advanceOf_one_iff mode, advanced]
    by_cases any : b.toNat = 1
    · simp only [if_pos any]
    · simp only [if_neg any]
      exact Prod.ext (by rw [← table]; exact stays) rfl
  · intro u one values zone d
    have listed : values = setupValues u := rfl
    refine ⟨fun j v found => ?_, fun j e found => ?_, fun j z found => ?_, ?_, fun j e found => ?_⟩
    · rw [listed] at found
      obtain ⟨inside, rfl⟩ := setupValues_getElem? found
      rw [entryBytes, entryLength_setup j inside]
    · rw [entryBytes, found]; rfl
    · rw [entryBytes, zoneEntryBytes, found]; rfl
    · rfl
    · rw [entryBytes, markerAt, found]; rfl

/-! ## Values that a write stores -/

theorem clampInt_eq {lo hi : Int} (ordered : lo ≤ hi) (v : Int) : clampInt lo hi v = max lo (min hi v) := by
  unfold clampInt; split_ifs <;> omega

theorem clampField_eq {lo hi : Nat} (ordered : lo ≤ hi) (v : Nat) :
    clampField lo hi v = (max lo (min hi v), decide (max lo (min hi v) ≠ v)) := by
  unfold clampField
  split_ifs <;> refine Prod.ext ?_ ?_ <;> simp <;> omega

theorem flagOf_of_le {n : Nat} (known : n ≤ 1) : flagOf n = some (decide (n = 1)) := by
  obtain rfl | rfl : n = 0 ∨ n = 1 := by omega
  · rfl
  · rfl

theorem flagOf_above {n : Nat} (above : 1 < n) : flagOf n = none := by
  rw [flagOf, if_neg (by omega), if_neg (by omega)]

theorem kindOf_of_le {n : Nat} (known : n ≤ 1) : kindOf n = some (if n = 1 then .ring else .check) := by
  obtain rfl | rfl : n = 0 ∨ n = 1 := by omega
  · rfl
  · rfl

theorem kindOf_above {n : Nat} (above : 1 < n) : kindOf n = none := by
  rw [kindOf, if_neg (by omega), if_neg (by omega)]

theorem entryRange_ordered {e : SetupEntry} {lo hi : Int} (range : entryRange e = .within lo hi) : lo ≤ hi := by
  cases e <;> simp only [entryRange, reduceCtorEq, EntryRange.within.injEq] at range <;> omega

/-- An entry that no other unit looks at is stored, and that is all. -/
theorem setupWritten_plain {e : SetupEntry} (head : ∀ h, e ≠ .headEnable h) (link : ∀ q, e ≠ .linkTimeout q) (encK : e ≠ .encK)
    (vCfg : e ≠ .vCfg) (vCrawl : e ≠ .vCrawl) (storeHigh : e ≠ .storeHigh) (minRevs : e ≠ .minRevs) (v : Int) (s : State) :
    setupWritten e v s = s := by
  cases e with
  | headEnable h => exact absurd rfl (head h)
  | linkTimeout q => exact absurd rfl (link q)
  | encK => exact absurd rfl encK
  | vCfg => exact absurd rfl vCfg
  | vCrawl => exact absurd rfl vCrawl
  | storeHigh => exact absurd rfl storeHigh
  | minRevs => exact absurd rfl minRevs
  | _ => rfl

theorem entryLength_bounds (t : Table) (k : Nat) : 2 ≤ entryLength t k ∧ entryLength t k ≤ 14 := by
  cases t with
  | setup => simp only [entryLength]; split <;> omega
  | _ => simp [entryLength]

/-! ## A write that passes every finding -/

/-- The state a taken write works on: the frame has come and the pointer is advanced. -/
def advanced (p : PortId) (mode : Byte) (s : State) : State :=
  let b := afterFrame p s
  b.setPort p { b.port p with index := if mode.toNat = 0 then (s.port p).index else (s.port p).index + 1 }

@[simp] theorem advanced_setup (p : PortId) (mode : Byte) (s : State) : (advanced p mode s).setup = s.setup := by cases p <;> rfl
@[simp] theorem advanced_adv (p : PortId) (mode : Byte) (s : State) : (advanced p mode s).adv = s.adv := by cases p <;> rfl
@[simp] theorem advanced_head (p : PortId) (mode : Byte) (s : State) (h : HeadId) : (advanced p mode s).head h = s.head h := by
  cases p <;> cases h <;> rfl

/-- A write that passes every finding but the value of its entry (R178). -/
theorem exec_tableWrite_taken {p : PortId} {mode : Byte} {entry : List Byte} {c : Instr} {s : State}
    (row : c ∈ tableWrites p mode entry) (idle : (s.port p).slot = .idle) (known : mode.toNat ≤ 2)
    (inside : (s.port p).index ≤ lastIndex (s.port p).table)
    (length : entry.length = entryLength (s.port p).table (s.port p).index)
    (held : s.locks.holder (tableLock (s.port p).table) = some p)
    (free : (s.port p).table = .setup → runFixed (setupEntryOf (s.port p).index) = true → s.slb.run = .idle) :
    exec c s = .next (
      let r := (writeEntry (s.port p).table (s.port p).index entry (advanced p mode s)).reply (afterFrame p s)
      withAnswer p r.2.status 0x0C r.2.payload r.1) := by
  let a := afterFrame p s
  have port : a.port p = { s.port p with link := .up 0, sdo := [statusByte s p] } := by cases p <;> rfl
  have fresh : (a.port p).link = .up 0 := by rw [port]
  have table : (a.port p).table = (s.port p).table := by rw [port]
  have index : (a.port p).index = (s.port p).index := by rw [port]
  have locks : a.locks = s.locks := afterFrame_locks p s
  have slb : a.slb = s.slb := afterFrame_slb p s
  have judged := tableWriteRequest_judged fresh mode entry
  have bounds := entryLength_bounds (s.port p).table (s.port p).index
  have same : pointing p (s.port p).table (nextIndex mode (s.port p).index) a = advanced p mode s := by cases p <;> rfl
  simp only [table, index, locks, slb, same] at judged
  rw [if_neg (by omega), if_neg (by omega), if_neg (by omega), if_neg (by omega), if_neg (not_not.2 held),
    if_neg (fun ⟨setup, fixed, run⟩ => run (free setup fixed))] at judged
  rw [exec_tableWrites row s, plainRequest_idle idle, judged]

/-! ### Setup entries -/

/-- A write of a numeric setup entry. -/
theorem writeSetup_within {i : Nat} {entry : List Byte} {lo hi : Int} (range : entryRange (setupEntryOf i) = .within lo hi)
    (s : State) :
    writeSetup i entry s =
      let v := max lo (min hi (intOf entry))
      .written (decide (v ≠ intOf entry)) (setupWritten (setupEntryOf i) v { s with setup := setSetup s.setup (setupEntryOf i) v }) := by
  simp only [writeSetup, range, clampInt_eq (entryRange_ordered range)]

theorem writeSetup_oneOf {i : Nat} {entry : List Byte} {codes : List Int} (range : entryRange (setupEntryOf i) = .oneOf codes)
    (inside : intOf entry ∈ codes) (s : State) :
    writeSetup i entry s = .written false (setupWritten (setupEntryOf i) (intOf entry)
      { s with setup := setSetup s.setup (setupEntryOf i) (intOf entry) }) := by
  simp only [writeSetup, range, if_pos inside]

theorem writeSetup_mask {i : Nat} {entry : List Byte} (range : entryRange (setupEntryOf i) = .mask) (s : State) :
    writeSetup i entry s = .written false { s with setup := setSetup s.setup (setupEntryOf i) (natOf entry) } := by
  have other : ∀ e, entryRange e ≠ .mask → setupEntryOf i ≠ e := fun e numeric same => numeric (same ▸ range)
  simp only [writeSetup, range]
  rw [setupWritten_plain (fun h => other _ (by simp [entryRange])) (fun q => other _ (by simp [entryRange]))
    (other _ (by simp [entryRange])) (other _ (by simp [entryRange])) (other _ (by simp [entryRange]))
    (other _ (by simp [entryRange])) (other _ (by simp [entryRange]))]

/-- A write of HEAD_ENABLE that turns a head off, or one on that is OFF, or changes nothing of a head (R7). -/
theorem headEnableWritten_of_free {h : HeadId} {on : Bool} {s : State} (free : ¬ (on = false ∧ (s.head h).state = .locked)) :
    ∃ r, (headEnableWritten h on s = s.setHead h r ∨ headEnableWritten h on s = raiseAll .headState (s.setHead h r)) ∧
      (on = true → (s.head h).state ≠ .off → r = s.head h) ∧
      (on = true → (s.head h).state = .off → r.state = .powering ∧ r.rate = (s.setup.head h).maxRate ∧ r.settleTimer = some 200000) ∧
      (on = false → r = { inState .off (s.head h) with openRev := none }) := by
  cases on with
  | true =>
    by_cases off : (s.head h).state = .off
    · let r := poweringValues (s.setup.head h).maxRate { s.head h with openRev := none }
      refine ⟨inState .powering r, .inr ?_, fun _ other => absurd off other, fun _ _ => ⟨rfl, rfl, rfl⟩, fun never => absurd never Bool.noConfusion⟩
      have state : r.state = .off := off
      rw [headEnableWritten, if_pos rfl, if_pos off, enterPowering_eq,
        enterState_setHead (by rw [state]; simp) (by simp), if_neg (by rw [state]; simp)]
    · refine ⟨s.head h, .inl ?_, fun _ _ => rfl, fun _ never => absurd never off, fun never => absurd never Bool.noConfusion⟩
      rw [headEnableWritten, if_pos rfl, if_neg off]
      cases h <;> rfl
  | false =>
    have unlocked : (s.head h).state ≠ .locked := fun locked => free ⟨rfl, locked⟩
    refine ⟨inState .off { s.head h with openRev := none }, ?_, fun never => absurd never Bool.false_ne_true,
      fun never => absurd never Bool.false_ne_true, fun _ => rfl⟩
    rw [headEnableWritten, if_neg Bool.false_ne_true, enterOff, dropRevolution,
      enterState_setHead (r := { s.head h with openRev := none }) unlocked (by simp)]
    split
    · exact .inl rfl
    · exact .inr rfl

/-! ### List entries and markers -/

/-- A write of a list entry or of DEFAULT, by its fields (R124). -/
theorem writeZone_eq {i : Nat} {entry : List Byte} (profile : fieldNat 9 1 entry ≤ 7) (stop : fieldNat 13 1 entry ≤ 1) (s : State) :
    let start := min 1000000000 (fieldNat 1 4 entry)
    let stopAt := min 1000000000 (fieldNat 5 4 entry)
    let margin := min 4095 (fieldNat 10 2 entry)
    let confirm := max 1 (min 15 (fieldNat 12 1 entry))
    let same : Bool := decide (margin = fieldNat 10 2 entry ∧ confirm = fieldNat 12 1 entry)
    let moved : Bool := decide (start ≠ fieldNat 1 4 entry ∨ stopAt ≠ fieldNat 5 4 entry)
    let stops := decide (fieldNat 13 1 entry = 1)
    let zone : ZoneEntry := ⟨decide (fieldNat 0 1 entry = 1), start, stopAt, fieldNat 9 1 entry, margin, confirm, stops⟩
    (i ≠ 32 → fieldNat 0 1 entry ≤ 1 → writeZone i entry s = .written (!(same && !moved))
      { s with env := { s.env with zones := s.env.zones.setIfInBounds i zone } }) ∧
    (i = 32 → writeZone i entry s = .written (!same)
      { s with env := { s.env with default := ⟨fieldNat 9 1 entry, margin, confirm, stops⟩ } }) := by
  intro start stopAt margin confirm same moved stops zone
  have low : ∀ hi v : Nat, max 0 (min hi v) = min hi v := fun hi v => Nat.zero_max _
  simp only [writeZone, flagOf_of_le stop, if_neg (Nat.not_lt.2 profile), clampField_eq (Nat.zero_le _), low,
    clampField_eq (show 1 ≤ 15 by decide)]
  refine ⟨fun list flag => ?_, fun last => ?_⟩
  · simp only [if_neg list, flagOf_of_le flag]
    congr 1
    simp only [same, moved, margin, confirm, start, stopAt]
    grind
  · simp only [if_pos last]
    congr 1
    simp only [same, margin, confirm]
    grind

theorem writeZone_badValue {i : Nat} {entry : List Byte} (s : State)
    (bad : 7 < fieldNat 9 1 entry ∨ 1 < fieldNat 13 1 entry ∨ (i ≠ 32 ∧ 1 < fieldNat 0 1 entry)) :
    writeZone i entry s = .badValue := by
  simp only [writeZone]
  by_cases stop : 1 < fieldNat 13 1 entry
  · rw [flagOf_above stop]
  rw [flagOf_of_le (Nat.not_lt.1 stop)]
  by_cases profile : 7 < fieldNat 9 1 entry
  · exact if_pos profile
  · obtain ⟨list, flag⟩ := (bad.resolve_left profile).resolve_left stop
    simp only [if_neg profile, if_neg list, flagOf_above flag]

/-- A write of a marker, by its fields (R58). -/
theorem writeMarker_eq {entry : List Byte} (flag : fieldNat 0 1 entry ≤ 1) (kind : fieldNat 7 1 entry ≤ 1) (i : Nat) (s : State) :
    let surveyed := min 999999999 (fieldNat 1 4 entry)
    let window := max 10 (min 2000 (fieldNat 5 2 entry))
    let marker : MarkerEntry := ⟨decide (fieldNat 0 1 entry = 1), surveyed, window, if fieldNat 7 1 entry = 1 then .ring else .check⟩
    writeMarker i entry s = .written (!decide (surveyed = fieldNat 1 4 entry ∧ window = fieldNat 5 2 entry))
      { s with mku := { s.mku with table := s.mku.table.setIfInBounds i marker } } := by
  intro surveyed window marker
  have low : max 0 (min Config.maxMm (fieldNat 1 4 entry)) = surveyed := Nat.zero_max _
  simp only [writeMarker, flagOf_of_le flag, kindOf_of_le kind, clampField_eq (Nat.zero_le Config.maxMm),
    clampField_eq (show 10 ≤ 2000 by decide), low]
  congr 1
  grind

theorem writeMarker_badValue {entry : List Byte} (bad : 1 < fieldNat 0 1 entry ∨ 1 < fieldNat 7 1 entry) (i : Nat) (s : State) :
    writeMarker i entry s = .badValue := by
  unfold writeMarker
  rcases bad with flag | kind
  · rw [flagOf_above flag]
  · rw [kindOf_above kind]
    split
    · rename_i known; cases known
    · rfl

/-! ## TABLE WRITE stores its entry (O49) -/

theorem linkDown_link (q : PortId) (s : State) : ((linkDown q s).port q).link = .down := by
  rw [linkDown_port]
  simp only [if_true, forcedRelease_port]
  split <;> rw [setPort_port_self]

section
variable {p : PortId} {mode : Byte} {entry : List Byte} {s : State}

/-- What the taken writes of a port answer and leave, from the outcome of the write. -/
def Writes (p : PortId) (mode : Byte) (entry : List Byte) (s : State) : Prop :=
  ∀ c ∈ tableWrites p mode entry, exec c s = .next (
    let r := (writeEntry (s.port p).table (s.port p).index entry (advanced p mode s)).reply (afterFrame p s)
    withAnswer p r.2.status 0x0C r.2.payload r.1)

theorem Writes.badValue (writes : Writes p mode entry s) {c : Instr} (row : c ∈ tableWrites p mode entry)
    (bad : writeEntry (s.port p).table (s.port p).index entry (advanced p mode s) = .badValue) :
    exec c s = .next (onlyAnswer p .badValue 0x0C [] s) := by
  rw [writes c row, bad]; rfl

theorem Writes.written (writes : Writes p mode entry s) {c : Instr} (row : c ∈ tableWrites p mode entry) {clamped : Bool} {u : State}
    (written : writeEntry (s.port p).table (s.port p).index entry (advanced p mode s) = .written clamped u) :
    exec c s = .next (withAnswer p (if clamped then .clamped else .ok) 0x0C [] u) := by
  rw [writes c row, written]; rfl

theorem Writes.fitting (writes : Writes p mode entry s) {c : Instr} (row : c ∈ tableWrites p mode entry) {fits : Bool} {u v : State}
    (written : writeEntry (s.port p).table (s.port p).index entry (advanced p mode s) = .written (!fits) u) (same : u = v) :
    exec c s = .next (withAnswer p (if fits then .ok else .clamped) 0x0C [] v) := by
  rw [writes.written row written, same]
  cases fits <;> rfl

/-- A numeric setup entry takes the value clamped to its range (R178). -/
theorem Writes.within (writes : Writes p mode entry s) (setup : (s.port p).table = .setup) {lo hi : Int}
    (range : entryRange (setupEntryOf (s.port p).index) = .within lo hi) {c : Instr} (row : c ∈ tableWrites p mode entry) :
    let e := setupEntryOf (s.port p).index
    let v := max lo (min hi (intOf entry))
    exec c s = .next (withAnswer p (if v = intOf entry then .ok else .clamped) 0x0C []
      (setupWritten e v { advanced p mode s with setup := setSetup s.setup e v })) := by
  intro e v
  have outcome := writeSetup_within (entry := entry) range (advanced p mode s)
  rw [advanced_setup] at outcome
  rw [writes.written row (by rw [setup]; exact outcome)]
  by_cases same : v = intOf entry
  · rw [if_pos same, if_neg (by simpa using same)]
  · rw [if_neg same, if_pos (by simpa using same)]

theorem Writes.oneOf (writes : Writes p mode entry s) (setup : (s.port p).table = .setup) {codes : List Int}
    (range : entryRange (setupEntryOf (s.port p).index) = .oneOf codes) (inside : intOf entry ∈ codes) {c : Instr}
    (row : c ∈ tableWrites p mode entry) :
    let e := setupEntryOf (s.port p).index
    exec c s = .next (withAnswer p .ok 0x0C []
      (setupWritten e (intOf entry) { advanced p mode s with setup := setSetup s.setup e (intOf entry) })) := by
  have outcome := writeSetup_oneOf range inside (advanced p mode s)
  rw [advanced_setup] at outcome
  exact writes.written row (by rw [setup]; exact outcome)

/-- The numeric entries, with what their owners do. -/
theorem Writes.numeric (writes : Writes p mode entry s) (setup : (s.port p).table = .setup) {lo hi : Int}
    (range : entryRange (setupEntryOf (s.port p).index) = .within lo hi) :
    let e := setupEntryOf (s.port p).index
    let a := advanced p mode s
    let v := max lo (min hi (intOf entry))
    let st : Status := if v = intOf entry then .ok else .clamped
    let w := { a with setup := setSetup s.setup e v }
    ((∀ q, e ≠ .linkTimeout q) → e ≠ .encK → e ≠ .vCfg → e ≠ .vCrawl → e ≠ .storeHigh → e ≠ .minRevs →
      exec (.tableWrite p mode entry) s = .next (withAnswer p st 0x0C [] w)) ∧
    (e = .encK → exec (.tableWriteEncK p mode entry) s =
      .next (withAnswer p st 0x0C [] { w with chu := { s.chu with remainder := 0 } })) ∧
    (e = .vCfg ∨ e = .vCrawl ∨ e = .storeHigh ∨ e = .minRevs →
      let u := if (adviceOf w).level = s.adv.advice.level then w else raiseAll .adviceChange w
      exec (.tableWriteAdviceInput p mode entry) s = .next (withAnswer p st 0x0C [] { u with adv := { s.adv with advice := adviceOf w } })) ∧
    (e = .linkTimeout p → exec (.tableWriteLinkTimeout p mode entry) s = .next (withAnswer p st 0x0C [] w)) ∧
    (∀ q, q ≠ p → e = .linkTimeout q →
      ∃ u, exec (.linkTimeout q) w = .next u ∧
        exec (.tableWriteLinkTimeout p mode entry) s = .next (withAnswer p st 0x0C [] u) ∧
        (∀ n, (s.port q).link = .up n → v ≠ 0 → v.toNat * 10000 ≤ n → (u.port q).link = .down)) := by
  intro e a v st w
  have done : ∀ c ∈ tableWrites p mode entry, exec c s = .next (withAnswer p st 0x0C [] (setupWritten e v w)) :=
    fun c row => writes.within setup range row
  refine ⟨fun link encK vCfg vCrawl storeHigh minRevs => ?_, fun encK => ?_, fun input => ?_, fun own => ?_, fun q apart other => ?_⟩
  · have head : ∀ h, e ≠ .headEnable h := fun h same => by rw [show setupEntryOf (s.port p).index = _ from same] at range; cases range
    rw [done _ (by simp [tableWrites]), setupWritten_plain head link encK vCfg vCrawl storeHigh minRevs]
  · rw [done _ (by simp [tableWrites]), encK]
    refine congrArg (fun t => Host.Outcome.next (withAnswer p st 0x0C [] t)) ?_
    cases p <;> rfl
  · intro u
    have evaluated : setupWritten e v w = evaluateAdvice w := by
      rcases input with same | same | same | same <;> rw [same] <;> rfl
    have adv : w.adv = s.adv := advanced_adv p mode s
    rw [done _ (by simp [tableWrites]), evaluated]
    refine congrArg (fun t => Host.Outcome.next (withAnswer p st 0x0C [] t)) ?_
    simp only [evaluateAdvice, adv, u]
    split <;> rfl
  · rw [done _ (by simp [tableWrites]), own]
    have fresh : (w.port p).link = .up 0 := by cases p <;> rfl
    exact congrArg (fun t => Host.Outcome.next (withAnswer p st 0x0C [] t)) (linkTimeoutWritten_fresh fresh)
  · refine ⟨linkExpires q w, rfl, ?_, fun n up timed due => ?_⟩
    · rw [done _ (by simp [tableWrites]), other]
      rfl
    · have nonneg : 0 ≤ v := by
        rw [show setupEntryOf (s.port p).index = _ from other] at range
        obtain ⟨rfl, -⟩ := EntryRange.within.inj range
        exact le_max_left _ _
      have timeout : w.setup.linkTimeout q = v.toNat := by
        simp only [w, other]
        cases q <;> rfl
      have link : (w.port q).link = .up n := by
        have same : w.port q = s.port q := by
          refine (show w.port q = a.port q by cases q <;> rfl).trans ?_
          exact (setPort_port _ p q _).trans ((if_neg apart).trans ((setPort_port s p q _).trans (if_neg apart)))
        rw [same, up]
      have expired : linkExpired q w = true := by
        rw [linkExpired_of_up link, timeout, Bool.and_eq_true, decide_eq_true_eq, decide_eq_true_eq]
        omega
      rw [linkExpires, if_pos expired]
      exact linkDown_link q w

/-- HEAD_ENABLE, with what the head then does (R7, log entry 27). -/
theorem Writes.headEnable (writes : Writes p mode entry s) (setup : (s.port p).table = .setup) {h : HeadId}
    (names : setupEntryOf (s.port p).index = .headEnable h) (code : intOf entry = 0 ∨ intOf entry = 1) :
    let a := advanced p mode s
    let on : Bool := decide (intOf entry = 1)
    let off := { inState .off (s.head h) with openRev := none }
    let w := evaluateAdvice { a with setup := s.setup.setHead h { s.setup.head h with enable := on } }
    (on = false → (s.head h).state = .locked →
      exec (.tableWriteHeadEnable p mode entry) s =
        .next (withAnswer p .ok 0x0C [] (afterExit h (raiseAll .headState (w.setHead h off))))) ∧
    (¬(on = false ∧ (s.head h).state = .locked) →
      ∃ t, exec (.tableWriteHeadEnable p mode entry) s = .next t ∧
        t.setup = s.setup.setHead h { s.setup.head h with enable := on } ∧
        (t.port p).slot = .ready { status := .ok, echo := 0x0C, payload := [] } ∧
        t.head (otherHead h) = s.head (otherHead h) ∧ t.chu = s.chu ∧ t.slb = s.slb ∧ t.scv = s.scv ∧
        (on = true → (s.head h).state ≠ .off → t.head h = s.head h) ∧
        (on = true → (s.head h).state = .off → (t.head h).state = .powering ∧
          (t.head h).rate = (s.setup.head h).maxRate ∧ (t.head h).settleTimer = some 200000) ∧
        (on = false → t.head h = off)) := by
  intro a on off w
  have range : entryRange (setupEntryOf (s.port p).index) = .oneOf [0, 1] := by rw [names]; rfl
  have inside : intOf entry ∈ [0, 1] := by simpa using code
  have entered : setSetup s.setup (.headEnable h) (intOf entry) = s.setup.setHead h { s.setup.head h with enable := on } := by
    rcases code with zero | one
    · simp only [on, zero]; rfl
    · simp only [on, one]; rfl
  have done : exec (.tableWriteHeadEnable p mode entry) s = .next (withAnswer p .ok 0x0C [] (headEnableWritten h on w)) := by
    have written := writes.oneOf setup range inside (c := .tableWriteHeadEnable p mode entry) (by simp [tableWrites])
    rw [names] at written
    dsimp only at written
    rw [entered] at written
    exact written
  have head : ∀ g, w.head g = s.head g := fun g => by
    rw [evaluateAdvice_head, ← advanced_head p mode s]
    cases g <;> rfl
  refine ⟨fun isOff locked => ?_, fun free => ?_⟩
  · rw [done, isOff, headEnableWritten, if_neg Bool.false_ne_true, enterOff, dropRevolution,
      enterState_of_locked (r := { w.head h with openRev := none }) (by rw [← locked, ← head]) (by simp), head]
    rfl
  · obtain ⟨r, left, stands, powers, powersOff⟩ := headEnableWritten_of_free (s := w) (h := h) (on := on) (by rwa [head])
    rw [head] at stands powers powersOff
    have setup : w.setup = s.setup.setHead h { s.setup.head h with enable := on } := evaluateAdvice_setup _
    have chu : w.chu = s.chu := (evaluateAdvice_chu _).trans (by cases p <;> rfl)
    have slb : w.slb = s.slb := (evaluateAdvice_slb _).trans (by cases p <;> rfl)
    have scv : w.scv = s.scv := (evaluateAdvice_scv _).trans (by cases p <;> rfl)
    have answered : ∀ {α : Type} (f : State → α), (∀ t m, f (t.setPort p m) = f t) → (∀ e t, f (raiseAll e t) = f t) →
        f (withAnswer p .ok 0x0C [] (headEnableWritten h on w)) = f (w.setHead h r) := fun f port raised => by
      refine (port _ _).trans ?_
      rcases left with same | same
      · rw [same]
      · rw [same, raised]
    have own : (withAnswer p .ok 0x0C [] (headEnableWritten h on w)).head h = r := by
      rw [answered (fun t => t.head h) (fun t m => setPort_head t p m h) fun e t => raiseAll_head e t h]
      exact setHead_head_self w h r
    refine ⟨_, done, ?_, withAnswer_slot p .ok 0x0C [] _, ?_, ?_, ?_, ?_, fun isOn notOff => ?_, fun isOn wasOff => ?_, fun isOff => ?_⟩
    · rw [answered State.setup (fun t m => setPort_setup t p m) raiseAll_setup, setHead_setup, setup]
    · rw [answered (fun t => t.head (otherHead h)) (fun t m => setPort_head t p m _) fun e t => raiseAll_head e t _,
        setHead_head_other, head]
    · rw [answered State.chu (fun t m => setPort_chu t p m) raiseAll_chu, setHead_chu, chu]
    · rw [answered State.slb (fun t m => setPort_slb t p m) raiseAll_slb, setHead_slb, slb]
    · rw [answered State.scv (fun t m => setPort_scv t p m) raiseAll_scv, setHead_scv, scv]
    · rw [own, stands isOn notOff]
    · rw [own]
      have rate : (w.setup.head h).maxRate = (s.setup.head h).maxRate := by rw [setup]; cases h <;> rfl
      rw [← rate]
      exact powers isOn wasOff
    · rw [own, powersOff isOff]

end

/-- Settles O49: the entry and its owner's effect, table by table. -/
theorem tableWritesStoreTheirEntries : Obligations.TableWritesStoreTheirEntries := by
  refine ⟨fun u e v range mask => ⟨setupValue_setSetup_self range mask, fun f apart => setupValue_setSetup_other apart u v⟩, ?_⟩
  intro p mode entry s idle known inside length held k e free b a field
  have writes : Writes p mode entry s := fun c row => exec_tableWrite_taken row idle known inside length held free
  refine ⟨fun setup => ⟨fun lo hi range => writes.numeric setup range, fun codes range head code => ?_, fun range => ?_,
    fun h names code => writes.headEnable setup names code⟩, fun profiles => ?_, fun zones => ?_, fun markers => ?_⟩
  · have other : ∀ f, (∀ l, entryRange f ≠ .oneOf l) → e ≠ f := fun f set same => set codes (same ▸ range)
    have plain := setupWritten_plain head (fun q => other _ (by simp [entryRange])) (other _ (by simp [entryRange]))
      (other _ (by simp [entryRange])) (other _ (by simp [entryRange])) (other _ (by simp [entryRange]))
      (other _ (by simp [entryRange]))
    rw [writes.oneOf setup range code (c := .tableWrite p mode entry) (by simp [tableWrites]), plain]
    rfl
  · refine writes.written (by simp [tableWrites]) (clamped := false) ?_
    rw [setup]
    refine (writeSetup_mask range (advanced p mode s)).trans ?_
    rw [advanced_setup]
    rfl
  · refine writes.written (by simp [tableWrites]) (clamped := false) ?_
    rw [profiles]
    cases p <;> rfl
  · intro start stopAt margin confirm same moved zone
    have below : k ≠ 32 ↔ k < 32 := by
      have last : k ≤ 32 := by rwa [zones] at inside
      omega
    refine ⟨fun bad => ?_, fun profile stop => ⟨fun list flag => ?_, fun last => ?_⟩⟩
    · refine writes.badValue (by simp [tableWrites]) ?_
      rw [zones]
      refine writeZone_badValue _ (bad.imp_right (Or.imp_right (And.imp_left below.2)))
    · refine writes.fitting (by simp [tableWrites]) (by
        rw [zones]; exact (writeZone_eq profile stop (advanced p mode s)).1 (below.2 list) flag) ?_
      cases p <;> rfl
    · refine writes.fitting (by simp [tableWrites]) (by
        rw [zones]; exact (writeZone_eq profile stop (advanced p mode s)).2 last) ?_
      cases p <;> rfl
  · intro surveyed window marker
    refine ⟨fun bad => ?_, fun flag kind => ?_⟩
    · exact writes.badValue (by simp [tableWrites]) (by rw [markers]; exact writeMarker_badValue bad k _)
    · have fitting := writes.fitting (c := .tableWriteMarkers p mode entry) (by simp [tableWrites])
        (by rw [markers]; exact writeMarker_eq flag kind k (advanced p mode s))
        (v := { a with mku := { s.mku with table := s.mku.table.setIfInBounds k marker } }) (by cases p <;> rfl)
      simp only [decide_eq_true_eq] at fitting
      exact fitting

end Sys2Proof.Machine

/-! PROOF. The reports: O50. -/

namespace Sys2Proof.Machine

/-! ## Blocks of a report -/

/-- A block of a report stands behind the blocks in front of it. -/
theorem block_at {whole : List Byte} {blocks : List (List Byte)} (made : whole = blocks.flatten) (i : Nat)
    {parts : List (List Byte)} {k : Nat} (found : blocks[i]? = some parts.flatten) (place : ((blocks.map List.length).take i).sum = k) :
    (whole.drop k).take parts.flatten.length = parts.flatten :=
  field_of_flatten made rfl i found place (by rw [List.getElem?_map, found]; rfl)

theorem bytesOf_flagCode (n : Nat) (x : Bool) : bytesOf n (flagCode x) = bytesOf n (if x then 1 else 0) := by cases x <;> rfl

/-- The table state as a report gives it: EDIT under a held lock, else SUSPENDED or ACTIVE (Table 11-7). -/
theorem tableStateCode_eq (holder : Option PortId) (suspended : Bool) :
    bytesOf 1 (tableStateCode (tableState holder suspended)) = bytesOf 1 (if holder ≠ none then 1 else if suspended then 2 else 0) := by
  cases holder <;> cases suspended <;> rfl

theorem markerIndexCode_eq (x : Option Nat) : bytesOf 2 (markerIndexCode x) = bytesOf 2 (x.getD 65535 : Nat) := by cases x <;> rfl

/-- The sizes of the blocks of READ STATUS (Table 11-7). -/
theorem statusBlocks_sizes (p : PortId) (s : State) :
    [runReport s.slb, headsReport s, positionReport s, tablesReport s, storeReport s.pst, adviceReport s.adv, portsReport p s].map
      List.length = [10, 4, 14, 4, 16, 11, 11] := by
  simp only [List.map_cons, List.map_nil, runReport, headsReport, positionReport, tablesReport, storeReport, adviceReport, portsReport,
    List.length_append, bytesOf_length, List.length_cons, List.length_nil]

theorem statusReport_eq (p : PortId) (s : State) :
    statusReport p s = [runReport s.slb, headsReport s, positionReport s, tablesReport s, storeReport s.pst, adviceReport s.adv,
      portsReport p s].flatten := by
  simp only [statusReport, List.flatten_cons, List.flatten_nil, List.append_nil, List.append_assoc]

/-- The blocks of READ STATUS in their places, whatever they hold. -/
theorem statusReport_block (p : PortId) (s : State) (i : Nat) {parts : List (List Byte)} {k : Nat}
    (found : [runReport s.slb, headsReport s, positionReport s, tablesReport s, storeReport s.pst, adviceReport s.adv,
      portsReport p s][i]? = some parts.flatten) (place : (([10, 4, 14, 4, 16, 11, 11] : List Nat).take i).sum = k) :
    ((statusReport p s).drop k).take parts.flatten.length = parts.flatten :=
  block_at (statusReport_eq p s) i found (by rw [statusBlocks_sizes]; exact place)

theorem holderCode_eq (x : Option PortId) : holderCode x = (x.map portNumber).getD 3 := by cases x <;> rfl

theorem lastStop_bytes (x : LastStop) :
    bytesOf 1 (lastStopCode x) ++ bytesOf 1 (clearingPort x) =
      match x with
      | .none => [0, 0]
      | .set => [1, 0]
      | .cleared q => 2 :: bytesOf 1 (portNumber q) := by
  cases x with
  | none => rfl
  | set => rfl
  | cleared q => cases q <;> rfl

/-! ### READ HEAD STATUS (Table 11-9) -/

/-- The bytes in front of the number of the previous accepted revolution. -/
def headFront (u : HeadSetup) (r : HeadReceiver) : List Byte :=
  bytesOf 1 (headStateCode r.state) ++ bytesOf 1 (rateCode r.rate) ++ bytesOf 1 (rateCode u.maxRate) ++ bytesOf 1 r.trainFailures ++
    bytesOf 1 (faultCauseCode r.faultCause) ++ bytesOf 4 (r.averagedPeriod.getD 0 : Nat) ++ bytesOf 1 r.periods.length ++
    bytesOf 1 r.rejectionRun

/-- The number of the previous accepted revolution, a free value while it is absent (log entry 6). -/
def previousNumber (free : Nat) (q : Option AcceptedRevolution) : BitVec 16 :=
  (q.map AcceptedRevolution.number).getD (Config.absentRevolution free)

/-- The bytes behind that number. -/
def headBack (h : HeadId) (s : State) : List Byte :=
  bytesOf 1 (flagCode (s.head h).previous.isSome) ++ bytesOf 1 (flagCode (headPower s h)) ++
    bytesOf 1 (lineClassCode (s.scv.line h).cls) ++ bytesOf 1 (supplyStateCode (s.scv.supply h).state) ++
    bytesOf 1 (selectionCode (s.head h).selection) ++ bytesOf 1 (s.head h).counter ++ [0]

theorem headReport_eq (h : HeadId) (s : State) :
    headReport h s = [headFront (s.setup.head h) (s.head h), bytesOf 2 (previousNumber s.freeCount (s.head h).previous).toNat,
      headBack h s].flatten := by
  have previous : ∀ q, previousReport s.freeCount q =
      bytesOf 2 (previousNumber s.freeCount q).toNat ++ bytesOf 1 (flagCode q.isSome) := fun q => by cases q <;> rfl
  simp only [headReport, headFront, headBack, previous, List.flatten_cons, List.flatten_nil, List.append_nil, List.append_assoc]

theorem headReport_block (h : HeadId) (s : State) (i : Nat) {parts : List (List Byte)} {k : Nat}
    (found : [headFront (s.setup.head h) (s.head h), bytesOf 2 (previousNumber s.freeCount (s.head h).previous).toNat,
      headBack h s][i]? = some parts.flatten) (place : (([11, 2, 7] : List Nat).take i).sum = k) :
    ((headReport h s).drop k).take parts.flatten.length = parts.flatten :=
  block_at (headReport_eq h s) i found (by
    simpa only [List.map_cons, List.map_nil, headFront, headBack, List.length_append, bytesOf_length, List.length_cons,
      List.length_nil] using place)

/-! ### READ SENSE (Table 11-10) -/

theorem candidateCode_eq (x : Option LineClass) : candidateCode x = (x.map lineClassCode).getD 255 := by cases x <;> rfl

theorem senseReport_eq (s : State) :
    senseReport s = [cantReport s.setup.avgCant s.scv.cant, supplyReport s.setup.avgSupply1 s.scv.supply1,
      supplyReport s.setup.avgSupply2 s.scv.supply2, lineReport s.setup.avgLine1 s.scv.line1,
      lineReport s.setup.avgLine2 s.scv.line2].flatten := by
  simp only [senseReport, List.flatten_cons, List.flatten_nil, List.append_nil, List.append_assoc]

theorem senseBlocks_sizes (s : State) :
    [cantReport s.setup.avgCant s.scv.cant, supplyReport s.setup.avgSupply1 s.scv.supply1,
      supplyReport s.setup.avgSupply2 s.scv.supply2, lineReport s.setup.avgLine1 s.scv.line1,
      lineReport s.setup.avgLine2 s.scv.line2].map List.length = [10, 10, 10, 10, 10] := by
  simp only [List.map_cons, List.map_nil, cantReport, supplyReport, lineReport, channelReport, List.length_append, bytesOf_length,
    List.length_cons, List.length_nil]

theorem senseReport_block (s : State) (i : Nat) {parts : List (List Byte)} {k : Nat}
    (found : [cantReport s.setup.avgCant s.scv.cant, supplyReport s.setup.avgSupply1 s.scv.supply1,
      supplyReport s.setup.avgSupply2 s.scv.supply2, lineReport s.setup.avgLine1 s.scv.line1,
      lineReport s.setup.avgLine2 s.scv.line2][i]? = some parts.flatten)
    (place : (([10, 10, 10, 10, 10] : List Nat).take i).sum = k) :
    ((senseReport s).drop k).take parts.flatten.length = parts.flatten :=
  block_at (senseReport_eq s) i found (by rw [senseBlocks_sizes]; exact place)

/-! ### READ CAPTURES (Table 11-11) -/

/-- The bytes in front of the capture records. -/
def captureFront (count : Nat) (s : State) : List Byte :=
  bytesOf 1 s.mku.log.length ++ bytesOf 1 count ++ bytesOf 4 s.mku.captureTotal.toNat ++ bytesOf 2 s.mku.suppressed ++
    bytesOf 1 (tableStateCode (matchingState s)) ++ bytesOf 1 (flagCode s.mku.suspended) ++ bytesOf 1 s.mku.missCount ++
    bytesOf 2 (markerIndexCode s.mku.nextExpected)

theorem captureReport_eq (first count : Nat) (s : State) :
    captureReport first count s =
      (captureFront (capturesAt first count s.mku).length s :: (capturesAt first count s.mku).map captureBytes).flatten := rfl

theorem captureBlocks_sizes (count : Nat) (s : State) (xs : List Capture) :
    (captureFront count s :: xs.map captureBytes).map List.length = 13 :: List.replicate xs.length 16 := by
  have record : ∀ x, (captureBytes x).length = 16 := fun x => by
    simp only [captureBytes, List.length_append, bytesOf_length, List.length_cons, List.length_nil]
  refine List.cons_eq_cons.2 ⟨?_, ?_⟩
  · simp only [captureFront, List.length_append, bytesOf_length]
  · rw [List.map_map, List.eq_replicate_iff]
    exact ⟨List.length_map _, fun n member => by
      obtain ⟨x, -, rfl⟩ := List.mem_map.1 member
      exact record x⟩

theorem captureReport_length (first count : Nat) (s : State) :
    (captureReport first count s).length = 13 + 16 * (capturesAt first count s.mku).length := by
  rw [captureReport_eq, List.length_flatten, captureBlocks_sizes, List.sum_cons, List.sum_replicate, smul_eq_mul, Nat.mul_comm]

/-- Settles O50: the answers, and each report put together of its blocks. -/
theorem reportsAnswerWithoutEffect : Obligations.ReportsAnswerWithoutEffect := by
  intro p b n s idle a places yes bit table c holder up marker channel
  have flagged : ∀ x, bytesOf 1 (flagCode x) = yes x := bytesOf_flagCode 1
  have tabled : ∀ h x, bytesOf 1 (tableStateCode (tableState h x)) = table h x := tableStateCode_eq
  have locks : a.locks = s.locks := afterFrame_locks p s
  have slb : a.slb = s.slb := afterFrame_slb p s
  have pst : a.pst = s.pst := afterFrame_pst p s
  have adv : a.adv = s.adv := afterFrame_adv p s
  have env : a.env = s.env := afterFrame_env p s
  have mku : a.mku = s.mku := afterFrame_mku p s
  have chu : a.chu = s.chu := afterFrame_chu p s
  have head1 : a.head1 = s.head1 := by cases p <;> rfl
  have head2 : a.head2 = s.head2 := by cases p <;> rfl
  have linked : ∀ q, linkUp (a.port q) = up q := fun q => by cases p <;> cases q <;> rfl
  have signals : a.signals = s.signals := afterFrame_signals p s
  have time : a.timebase = s.timebase := afterFrame_timebase p s
  have setup : a.setup = s.setup := afterFrame_setup p s
  have scv : a.scv = s.scv := afterFrame_scv p s
  have supplied : ∀ h, supplyReport (a.setup.avgSupply h) (a.scv.supply h) =
      (channel (s.setup.avgSupply h) (s.scv.supply h).channel ++
        [bytesOf 1 (supplyStateCode (s.scv.supply h).state), bytesOf 1 (s.scv.supply h).count, [0, 0]]).flatten := fun h => by
    simp only [supplyReport, channelReport, lastRaw, channel, setup, scv, List.cons_append, List.nil_append, List.flatten_cons,
      List.flatten_nil, List.append_nil, List.append_assoc]
  have lined : ∀ h, lineReport (a.setup.avgLine h) (a.scv.line h) =
      (channel (s.setup.avgLine h) (s.scv.line h).channel ++
        [bytesOf 1 (lineClassCode (s.scv.line h).cls), bytesOf 1 (((s.scv.line h).candidate.map lineClassCode).getD 255 : Nat),
          bytesOf 1 (s.scv.line h).count, [0]]).flatten := fun h => by
    simp only [lineReport, candidateCode_eq, channelReport, lastRaw, channel, setup, scv, List.cons_append, List.nil_append,
      List.flatten_cons, List.flatten_nil, List.append_nil, List.append_assoc]
  have block := statusReport_block p a
  rw [slb, pst, adv] at block
  refine ⟨?_, ?_, block 0 (congrArg some ?_) rfl, block 1 (congrArg some ?_) rfl, block 2 (congrArg some ?_) rfl,
    block 3 (congrArg some ?_) rfl, block 4 (congrArg some ?_) rfl, block 5 (congrArg some ?_) rfl, block 6 (congrArg some ?_) rfl,
    ?_, ?_, ?_, ?_, ?_, ?_, ?_, ?_, ?_⟩
  · exact congrArg _ (plainRequest_unchanged (r := { status := .ok, payload := statusReport p a }) idle 0x01
        (act := fun t => (t, { status := .ok, payload := statusReport p t })) rfl)
  · rw [statusReport_eq, List.length_flatten, statusBlocks_sizes]; rfl
  · simp only [runReport, List.flatten_cons, List.flatten_nil, List.append_nil, List.append_assoc]
  · simp only [headsReport, head1, head2, List.flatten_cons, List.flatten_nil, List.append_nil, List.append_assoc]
  · simp only [positionReport, chainageMm, speed, isFailed, chu, List.flatten_cons, List.flatten_nil, List.append_nil, List.append_assoc]
    rfl
  · simp only [tablesReport, lookupState, matchingState, locks, env, mku, tabled, flagged, List.flatten_cons, List.flatten_nil,
      List.append_nil, List.append_assoc]
  · simp only [storeReport, fill, oldestSeq, newestSeq, flagged, List.flatten_cons, List.flatten_nil, List.append_nil,
      List.append_assoc]
  · simp only [adviceReport, flagged, lastStop_bytes, List.flatten_cons, List.flatten_nil, List.append_nil, List.append_assoc]
    rfl
  · simp only [portsReport, holderCode_eq, locks, signals, time, ← linked, List.flatten_cons, List.flatten_nil, List.append_nil,
      List.append_assoc]
    rfl
  · exact fun one two => congrArg _ (plainRequest_unchanged (r := bare .badValue) idle 0x32 (headRequest_other one two _ _))
  · intro h number r
    have head : a.head h = r := afterFrame_head p h s
    have part := headReport_block h a
    rw [head] at part
    have request := plainRequest_idle idle 0x32 (headRequest b readHead)
    rw [headRequest_number number] at request
    refine ⟨congrArg Host.Outcome.next (request.trans ?_), ?_, part 0 (congrArg some ?_) rfl,
      fun q previous => part 1 (congrArg some ?_) rfl, part 2 (congrArg some ?_) rfl⟩
    · refine congrArg (withAnswer p .ok 0x32 (headReport h a)) ?_
      change (if (a.head h).previous = none then useFree a else a) = _
      rw [head]
      split
      · cases p <;> rfl
      · cases p <;> rfl
    · rw [headReport_eq, List.length_flatten]
      simp only [List.map_cons, List.map_nil, headFront, headBack, List.length_append, bytesOf_length, List.length_cons,
        List.length_nil]
      rfl
    · simp only [headFront, setup, List.flatten_cons, List.flatten_nil, List.append_nil, List.append_assoc]
    · rw [previous]; rfl
    · have power : headPower a h = decide (r.state ≠ .off ∧ r.state ≠ .faulted) := by
        rw [headPower, head]
        cases r.state <;> rfl
      simp only [headBack, head, scv, power, flagged, List.flatten_cons, List.flatten_nil, List.append_nil, List.append_assoc]
  · exact congrArg _ (plainRequest_unchanged (r := { status := .ok, payload := senseReport a }) idle 0x38
      (act := fun t => (t, { status := .ok, payload := senseReport t })) rfl)
  · rw [senseReport_eq, List.length_flatten, senseBlocks_sizes]; rfl
  · refine senseReport_block a 0 (congrArg some ?_) rfl
    simp only [cantReport, channelReport, lastRaw, channel, setup, scv, flagged, List.cons_append, List.nil_append,
      List.flatten_cons, List.flatten_nil, List.append_nil, List.append_assoc]
  · intro h
    cases h
    · refine senseReport_block a 1 (congrArg some ?_) rfl
      exact supplied .h1
    · refine senseReport_block a 2 (congrArg some ?_) rfl
      exact supplied .h2
  · intro h
    cases h
    · refine senseReport_block a 3 (congrArg some ?_) rfl
      exact lined .h1
    · refine senseReport_block a 4 (congrArg some ?_) rfl
      exact lined .h2
  · intro bad
    refine congrArg _ (plainRequest_unchanged (r := bare .badValue) idle 0x39 ?_)
    exact Prod.ext rfl (if_pos (by omega))
  · intro first least most report count
    have size : (capturesAt b.toNat n.toNat s.mku).length = count := by rw [capturesAt, List.length_take, List.length_drop]
    refine ⟨?_, ?_, ?_, fun j x inside found => ?_⟩
    · refine congrArg _ (plainRequest_unchanged (r := { status := .ok, payload := report }) idle 0x39 ?_)
      exact Prod.ext rfl (if_neg (by omega))
    · exact (captureReport_length _ _ a).trans (by rw [mku, size])
    · refine block_at (captureReport_eq _ _ a) 0 (congrArg some ?_) rfl
      simp only [captureFront, size, matchingState, locks, mku, markerIndexCode_eq, tabled, flagged, List.flatten_cons,
        List.flatten_nil, List.append_nil, List.append_assoc]
      rfl
    · refine block_at (captureReport_eq _ _ a) (j + 1) ?_ ?_
      · rw [List.getElem?_cons_succ, List.getElem?_map, mku, capturesAt, List.getElem?_take_of_lt (by omega), List.getElem?_drop,
          found]
        refine congrArg some ?_
        simp only [captureBytes, markerIndexCode_eq, List.flatten_cons, List.flatten_nil, List.append_nil, List.append_assoc]
        rfl
      · rw [captureBlocks_sizes, mku, size, List.take_succ_cons, List.take_replicate, Nat.min_eq_left (by omega), List.sum_cons,
          List.sum_replicate, smul_eq_mul, Nat.mul_comm]

end Sys2Proof.Machine

/-! PROOF. The steps of a window end, one by one, for O19. -/

namespace Sys2Proof.Machine

/-! ## Steps that change the quality at most once -/

/-- Open slices that are told of the quality q where it differs from the one before (R90). -/
def toldOf (before q : Quality) (xs : List OpenSlice) : List OpenSlice := if before = q then xs else loweredTo q xs

theorem toldOf_same (q : Quality) (xs : List OpenSlice) : toldOf q q xs = xs := if_pos rfl

theorem toldOf_eq_nil (before q : Quality) (xs : List OpenSlice) : toldOf before q xs = [] ↔ xs = [] := by
  unfold toldOf
  split
  · rfl
  · exact loweredTo_eq_nil q xs

/-- Of two changes at most one is a change. -/
theorem toldOf_toldOf {before between q : Quality} (once : between = before ∨ q = between) (xs : List OpenSlice) :
    toldOf between q (toldOf before between xs) = toldOf before q xs := by
  rcases once with same | same <;> rw [same] <;> simp only [toldOf_same]

/-- u follows s by changes of the position and the markers with at most one change of quality, which the open slices and the ports are
told of. -/
structure Follows (s u : State) : Prop where
  masked : positionMask u = positionMask s
  events : keepsEvents s u
  told : u.chu.quality ≠ s.chu.quality → ∀ p, outstanding .qualityChange (u.port p) = true
  slb : u.slb = { s.slb with openSlices := toldOf s.chu.quality u.chu.quality s.slb.openSlices }

theorem Follows.trans {s u v : State} (first : Follows s u) (second : Follows u v)
    (once : u.chu.quality = s.chu.quality ∨ v.chu.quality = u.chu.quality) : Follows s v := by
  refine ⟨second.masked.trans first.masked, first.events.trans second.events, fun changes p => ?_, ?_⟩
  · by_cases here : u.chu.quality = s.chu.quality
    · exact second.told (here ▸ changes) p
    · exact second.events _ _ (first.told here p)
  · rw [second.slb, first.slb]
    dsimp only
    rw [toldOf_toldOf once]

/-- Changes of the position that leave the quality. -/
theorem follows_of_chu {s : State} {c : ChainageUnit} (same : c.quality = s.chu.quality) : Follows s { s with chu := c } := by
  refine ⟨rfl, keepsEvents_of_ports fun p => by cases p <;> rfl, fun changes => absurd same changes, ?_⟩
  change s.slb = { s.slb with openSlices := toldOf s.chu.quality c.quality s.slb.openSlices }
  rw [same, toldOf_same]

theorem Follows.refl (s : State) : Follows s s := follows_of_chu (c := s.chu) rfl

theorem changeQuality_follows {q : Quality} (found : q ≠ .lost) (s : State) : Follows s (changeQuality q s) := by
  have quality : (changeQuality q s).chu.quality = q := congrArg ChainageUnit.quality (changeQuality_chu q s)
  refine ⟨changeQuality_position q s, changeQuality_keepsEvents q s, fun changes p => ?_, ?_⟩
  · rw [quality] at changes
    exact changeQuality_raises changes.symm p
  · rw [changeQuality_slb found, quality, toldOf]
    split <;> rfl

/-- A change between two qualities other than LOST leaves the next expected marker (R68). -/
theorem changeQuality_mku_of_found {q : Quality} {s : State} (found : q ≠ .lost) (was : s.chu.quality ≠ .lost) :
    (changeQuality q s).mku = s.mku := by
  by_cases same : s.chu.quality = q
  · rw [changeQuality_same_quality same]
  · rw [changeQuality_of_ne same, if_neg found, toldQuality, nextAtQuality, if_neg found, if_neg was, evaluateAdvice_mku]
    rfl

theorem degradedFrom_lost : degradedFrom .lost = .lost := rfl

theorem degradedFrom_ne_lost {q : Quality} (found : q ≠ .lost) : degradedFrom q ≠ .lost := by
  cases q <;> simp [degradedFrom] at found ⊢

theorem degradedFrom_degradedFrom (q : Quality) : degradedFrom (degradedFrom q) = degradedFrom q := by cases q <;> rfl

theorem degrade_of_lost {s : State} (lost : s.chu.quality = .lost) : degrade s = s := by
  rw [degrade_eq, lost, degradedFrom_lost, changeQuality_same_quality lost]

theorem degrade_follows (s : State) : Follows s (degrade s) := by
  by_cases lost : s.chu.quality = .lost
  · rw [degrade_of_lost lost]; exact .refl s
  · rw [degrade_eq]; exact changeQuality_follows (degradedFrom_ne_lost lost) s

theorem degrade_chu (s : State) : (degrade s).chu = { s.chu with quality := degradedFrom s.chu.quality } := by
  rw [degrade_eq, changeQuality_chu]

theorem degrade_mku (s : State) : (degrade s).mku = s.mku := by
  by_cases lost : s.chu.quality = .lost
  · rw [degrade_of_lost lost]
  · rw [degrade_eq, changeQuality_mku_of_found (degradedFrom_ne_lost lost) lost]

/-! ## Speed, direction, travel and counts, without their reports -/

/-- Step 2 in the Chainage Unit (R45). -/
def speeded (d : Int) (c : ChainageUnit) : ChainageUnit :=
  { c with speedHistory := #v[c.speedHistory[1], c.speedHistory[2], c.speedHistory[3], d.natAbs] }

/-- The direction that a distance turns the motion to, if it does (R46). -/
def turnsTo (d : Int) (c : ChainageUnit) : Option Direction :=
  match c.direction with
  | none => if 50000 ≤ (c.determination + d).natAbs then some (signDirection (c.determination + d)) else none
  | some e => if d ≠ 0 ∧ signDirection d ≠ e ∧ 50000 ≤ c.reversal + d.natAbs then some (signDirection d) else none

/-- The Chainage Unit with a new motion direction and its accumulators cleared (R46). -/
def turnedTo (e : Direction) (c : ChainageUnit) : ChainageUnit := { c with direction := some e, reversal := 0, determination := 0 }

/-- Step 3 in the Chainage Unit where the direction stays (R46). -/
def accumulated (d : Int) (c : ChainageUnit) : ChainageUnit :=
  match c.direction with
  | none => { c with determination := c.determination + d }
  | some e =>
    if d = 0 then c else if signDirection d = e then { c with reversal := 0 } else { c with reversal := c.reversal + d.natAbs }

/-- Step 3 in the Chainage Unit (R46). -/
def directed (d : Int) (c : ChainageUnit) : ChainageUnit :=
  match turnsTo d c with
  | some e => turnedTo e c
  | none => accumulated d c

theorem windowDirection_eq (d : Int) (s : State) :
    windowDirection d s =
      match turnsTo d s.chu with
      | some e => setDirection e s
      | none => { s with chu := accumulated d s.chu } := by
  have limit : Config.directionUm = 50000 := rfl
  unfold windowDirection turnsTo accumulated
  cases direction : s.chu.direction with
  | none => by_cases far : 50000 ≤ (s.chu.determination + d).natAbs <;> simp only [limit, far, direction, if_true, if_false]
  | some e =>
    by_cases zero : d = 0
    · simp only [zero, direction, if_true, ne_eq, not_true_eq_false, false_and, if_false]
    · by_cases along : signDirection d = e
      · simp only [zero, along, direction, if_true, if_false, ne_eq, not_true_eq_false, false_and, and_false]
      · by_cases far : 50000 ≤ s.chu.reversal + d.natAbs <;>
          simp only [limit, zero, along, far, direction, if_true, if_false, ne_eq, not_false_eq_true, true_and]

/-- A turn is to another direction. -/
theorem turnsTo_ne {d : Int} {c : ChainageUnit} {e : Direction} (turns : turnsTo d c = some e) : c.direction ≠ some e := by
  unfold turnsTo at turns
  intro same
  rw [same] at turns
  dsimp only at turns
  split at turns
  · rename_i apart
    exact apart.2.1 (Option.some.inj turns)
  · cases turns

theorem accumulated_direction (d : Int) (c : ChainageUnit) : (accumulated d c).direction = c.direction := by
  unfold accumulated
  split
  · rfl
  · split
    · rfl
    · split <;> rfl

theorem directed_direction (d : Int) (c : ChainageUnit) : (directed d c).direction = (turnsTo d c <|> c.direction) := by
  unfold directed
  cases turnsTo d c with
  | some e => rfl
  | none => exact accumulated_direction d c

/-- Step 4 in the Chainage Unit, but for the quality (R42, R43, R48). -/
def travelled (tol : Nat) (d : Int) (c : ChainageUnit) : ChainageUnit :=
  let a := { c with travel := min 999999999000 (c.travel + d.natAbs) }
  if c.left.health = .failed ∨ c.right.health = .failed then { a with slipTravel := 0, slipLeft := 0, slipRight := 0 }
  else
    let stretch := c.slipTravel + d.natAbs
    let wl := c.slipLeft + c.left.delta.natAbs
    let wr := c.slipRight + c.right.delta.natAbs
    if 500000 ≤ stretch then { a with slip := slipFound tol wl wr, slipTravel := 0, slipLeft := 0, slipRight := 0 }
    else { a with slipTravel := stretch, slipLeft := wl, slipRight := wr }

/-- A slip check that finds slip (R42). -/
def findsSlip (tol : Nat) (d : Int) (c : ChainageUnit) : Bool :=
  !decide (c.left.health = .failed ∨ c.right.health = .failed) && decide (500000 ≤ c.slipTravel + d.natAbs) &&
    slipFound tol (c.slipLeft + c.left.delta.natAbs) (c.slipRight + c.right.delta.natAbs)

theorem windowTravel_eq (d : Int) (s : State) :
    windowTravel d s =
      let t := { s with chu := travelled s.setup.slipTol d s.chu }
      if findsSlip s.setup.slipTol d s.chu then degrade t else t := by
  unfold windowTravel travelled findsSlip
  by_cases failed : s.chu.left.health = .failed ∨ s.chu.right.health = .failed
  · have flag : (isFailed s.chu.left || isFailed s.chu.right) = true := by simpa [isFailed_iff] using failed
    simp only [flag, if_true, if_pos failed, decide_eq_true failed]
    rfl
  · have flag : (isFailed s.chu.left || isFailed s.chu.right) = false := by
      simpa [Bool.eq_false_iff, isFailed_iff] using failed
    simp only [flag, Bool.false_eq_true, if_false, if_neg failed, decide_eq_false failed]
    by_cases far : 500000 ≤ s.chu.slipTravel + d.natAbs
    · rw [if_pos (show Config.slipTravelUm ≤ _ from far), if_pos far, decide_eq_true far]
      rfl
    · rw [if_neg (show ¬ Config.slipTravelUm ≤ _ from far), if_neg far, decide_eq_false far]
      rfl

/-- Step 6 in the Chainage Unit (R39). -/
def cleared (c : ChainageUnit) : ChainageUnit :=
  { c with left := { c.left with delta := 0, illegal := 0 }, right := { c.right with delta := 0, illegal := 0 } }

theorem directed_withQuality (d : Int) (c : ChainageUnit) (q : Quality) :
    directed d { c with quality := q } = { directed d c with quality := q } := by
  have turns : turnsTo d { c with quality := q } = turnsTo d c := rfl
  have stays : accumulated d { c with quality := q } = { accumulated d c with quality := q } := by
    unfold accumulated
    dsimp only
    split
    · rfl
    · split
      · rfl
      · split <;> rfl
  unfold directed
  rw [turns, stays]
  split <;> rfl

theorem travelled_withQuality (tol : Nat) (d : Int) (c : ChainageUnit) (q : Quality) :
    travelled tol d { c with quality := q } = { travelled tol d c with quality := q } := by
  unfold travelled
  dsimp only
  split
  · rfl
  · split <;> rfl

theorem directed_quality (d : Int) (c : ChainageUnit) : (directed d c).quality = c.quality := by
  exact (congrArg ChainageUnit.quality (directed_withQuality d c c.quality) :)

theorem travelled_quality (tol : Nat) (d : Int) (c : ChainageUnit) : (travelled tol d c).quality = c.quality := by
  exact (congrArg ChainageUnit.quality (travelled_withQuality tol d c c.quality) :)

/-! ## The steps behind the direction -/

/-- The quality behind the slip check (R43). -/
def slippedQuality (tol : Nat) (d : Int) (c : ChainageUnit) : Quality :=
  if findsSlip tol d c then degradedFrom c.quality else c.quality

/-- The quality behind the survey hold (R48). -/
def heldQuality (hold travel : Nat) (q : Quality) : Quality := if q = .surveyed ∧ hold * 1000000 ≤ travel then .deadReckoned else q

theorem heldQuality_of_ne {hold travel : Nat} {q : Quality} (other : q ≠ .surveyed) : heldQuality hold travel q = q :=
  if_neg fun both => other both.1

theorem windowTravel_follows (d : Int) (s : State) : Follows s (windowTravel d s) := by
  have moved : Follows s { s with chu := travelled s.setup.slipTol d s.chu } := follows_of_chu (travelled_quality _ _ _)
  rw [windowTravel_eq]
  dsimp only
  split
  · exact moved.trans (degrade_follows _) (.inl (travelled_quality _ _ _))
  · exact moved

theorem windowTravel_mku (d : Int) (s : State) : (windowTravel d s).mku = s.mku := by
  rw [windowTravel_eq]
  dsimp only
  split
  · rw [degrade_mku]
  · rfl

theorem windowTravel_chu (d : Int) (s : State) :
    (windowTravel d s).chu =
      { travelled s.setup.slipTol d s.chu with quality := slippedQuality s.setup.slipTol d s.chu } := by
  have same := travelled_quality s.setup.slipTol d s.chu
  rw [windowTravel_eq, slippedQuality]
  dsimp only
  split
  · rw [degrade_chu, same]
  · rw [← same]

theorem windowHold_eq (s : State) : windowHold s = changeQuality (heldQuality s.setup.surveyHold s.chu.travel s.chu.quality) s := by
  unfold windowHold heldQuality
  split
  · rfl
  · rw [changeQuality_same_quality rfl]

theorem heldQuality_found {hold travel : Nat} {q : Quality} (found : q ≠ .lost) : heldQuality hold travel q ≠ .lost := by
  unfold heldQuality
  split
  · exact Quality.noConfusion
  · exact found

theorem windowHold_follows (s : State) : Follows s (windowHold s) := by
  by_cases lost : s.chu.quality = .lost
  · rw [windowHold, if_neg (by rw [lost]; simp)]; exact .refl s
  · rw [windowHold_eq]; exact changeQuality_follows (heldQuality_found lost) s

theorem windowHold_mku (s : State) : (windowHold s).mku = s.mku := by
  by_cases lost : s.chu.quality = .lost
  · rw [windowHold, if_neg (by rw [lost]; simp)]
  · rw [windowHold_eq, changeQuality_mku_of_found (heldQuality_found lost) lost]

/-- Steps 4 to 6 of a window end (R39). -/
def afterDirection (d : Int) (s : State) : State := windowClear (windowHold (windowTravel d s))

/-- The quality behind steps 4 to 6. -/
def laterQuality (u : Setup) (d : Int) (c : ChainageUnit) : Quality :=
  heldQuality u.surveyHold (travelled u.slipTol d c).travel (slippedQuality u.slipTol d c)

theorem setup_of_position {s u : State} (masked : positionMask u = positionMask s) : u.setup = s.setup := (congrArg State.setup masked :)

theorem afterDirection_chu (d : Int) (s : State) :
    (afterDirection d s).chu = { cleared (travelled s.setup.slipTol d s.chu) with quality := laterQuality s.setup d s.chu } := by
  have setup := setup_of_position (windowTravel_position d s)
  change cleared (windowHold (windowTravel d s)).chu = _
  rw [windowHold_eq, changeQuality_chu, setup, windowTravel_chu]
  rfl

theorem afterDirection_mku (d : Int) (s : State) : (afterDirection d s).mku = s.mku :=
  (windowHold_mku _).trans (windowTravel_mku d s)

/-- Slip lowers the quality below SURVEYED, so the hold does not lower it again. -/
theorem afterDirection_follows (d : Int) (s : State) : Follows s (afterDirection d s) := by
  have held : Follows s (windowHold (windowTravel d s)) := by
    refine (windowTravel_follows d s).trans (windowHold_follows _) ?_
    have quality : (windowTravel d s).chu.quality = slippedQuality s.setup.slipTol d s.chu := by rw [windowTravel_chu]
    rw [windowHold_eq, changeQuality_chu, quality]
    by_cases slips : findsSlip s.setup.slipTol d s.chu = true
    · refine .inr (heldQuality_of_ne ?_)
      rw [slippedQuality, if_pos slips]
      cases s.chu.quality <;> simp [degradedFrom]
    · exact .inl (if_neg slips)
  exact held.trans (follows_of_chu rfl) (.inr rfl)

/-! ## The direction and its reports (R46, R68, R78, R79) -/

/-- The state that a turn is reported from. -/
def turning (e : Direction) (s : State) : State := recomputeNext { s with chu := turnedTo e s.chu }

theorem setDirection_eq (e : Direction) (s : State) : setDirection e s = reportDirection e (turning e s) := rfl

theorem turning_eq (e : Direction) (s : State) : ∃ n, turning e s = setNext n { s with chu := turnedTo e s.chu } := recomputeNext_eq _

/-- The next expected marker of a turn (R68). -/
theorem turning_next (e : Direction) (s : State) :
    (turning e s).mku = { s.mku with nextExpected :=
      if s.locks.markers = none ∧ s.mku.suspended = false ∧ s.chu.quality ≠ .lost then firstNotPassed s e else none } := by
  let u := { s with chu := turnedTo e s.chu }
  have inactive : matchingState u ≠ .active → turning e s = setNext none u := fun other => by
    rw [turning, recomputeNext]
    split
    · exact absurd ‹_› other
    · exact absurd ‹_› other
    · exact absurd ‹_› other
    · rfl
  by_cases free : s.locks.markers = none
  · cases suspended : s.mku.suspended with
    | false =>
      have next : turning e s = _ := recomputeNext_of_active (s := u) (matchingState_active free suspended)
      rw [next]
      by_cases lost : s.chu.quality = .lost
      · rw [if_pos (show u.chu.quality = .lost from lost), if_neg fun all => all.2.2 lost]
        rfl
      · rw [if_neg (show ¬ u.chu.quality = .lost from lost), if_pos ⟨free, rfl, lost⟩]
        rfl
    | true =>
      rw [inactive (by rw [matchingState_suspended (s := u) free suspended]; exact TableState.noConfusion),
        if_neg fun all => Bool.noConfusion all.2.1]
      rfl
  · rw [inactive (by rw [matchingState_edit (s := u) free]; exact TableState.noConfusion), if_neg fun all => free all.1]
    rfl

theorem reportDirection_chu (e : Direction) (s : State) : (reportDirection e s).chu = s.chu := by
  unfold reportDirection
  split
  · split
    · rfl
    · split
      · rfl
      · exact segmentBreak_chu s
  · rfl

theorem reportDirection_mku (e : Direction) (s : State) : (reportDirection e s).mku = s.mku := by
  unfold reportDirection
  split
  · split
    · rfl
    · split
      · rfl
      · exact segmentBreak_mku s
  · rfl

theorem reportDirection_keepsEvents (e : Direction) (s : State) : keepsEvents s (reportDirection e s) := by
  unfold reportDirection
  split
  · split
    · exact keepsEvents_of_ports fun p => by cases p <;> rfl
    · split
      · exact fun _ _ => id
      · exact segmentBreak_keepsEvents s
  · exact fun _ _ => id

/-- A change between the two directions in RUNNING breaks the segment (R79). -/
theorem reportDirection_of_break {e : Direction} {s : State} (running : s.slb.run = .running) (determined : s.slb.direction ≠ none)
    (other : s.slb.direction ≠ some e) : reportDirection e s = segmentBreak s := by
  unfold reportDirection
  rw [if_pos running]
  cases direction : s.slb.direction with
  | none => exact absurd direction determined
  | some f =>
    dsimp only
    rw [if_neg fun same => other (direction.trans (congrArg some same))]

/-- Any other report changes at most an UNDETERMINED segment direction (R78). -/
theorem reportDirection_slb {e : Direction} {s : State}
    (stays : ¬ (s.slb.run = .running ∧ s.slb.direction ≠ none ∧ s.slb.direction ≠ some e)) :
    (reportDirection e s).slb = { s.slb with
      direction := if s.slb.run = .running ∧ s.slb.direction = none then some e else s.slb.direction } := by
  unfold reportDirection
  by_cases running : s.slb.run = .running
  · rw [if_pos running]
    cases direction : s.slb.direction with
    | none => simp only [running, and_self, if_true]
    | some f =>
      have along : f = e := by
        by_contra apart
        exact stays ⟨running, by rw [direction]; simp, by rw [direction]; simpa using apart⟩
      simp only [along, if_true, reduceCtorEq, and_false, if_false]
      rw [← along, ← direction]
  · rw [if_neg running, if_neg fun both => running both.1]

/-- Steps 2 and 3 in the Chainage Unit. -/
theorem windowDirection_chu (d : Int) (s : State) : (windowDirection d s).chu = directed d s.chu := by
  rw [windowDirection_eq, directed]
  cases turnsTo d s.chu with
  | some e =>
    obtain ⟨n, same⟩ := turning_eq e s
    exact (reportDirection_chu e (turning e s)).trans (by rw [same]; rfl)
  | none => rfl

theorem windowDirection_keepsEvents (d : Int) (s : State) : keepsEvents s (windowDirection d s) := by
  rw [windowDirection_eq]
  cases turnsTo d s.chu with
  | some e =>
    obtain ⟨n, same⟩ := turning_eq e s
    have moved : keepsEvents s (turning e s) := by
      rw [same]; exact keepsEvents_of_ports fun p => by cases p <;> rfl
    exact moved.trans (reportDirection_keepsEvents e _)
  | none => exact keepsEvents_of_ports fun p => by cases p <;> rfl

end Sys2Proof.Machine

/-! PROOF. The marker misses of a window end (R69, R70), for O19. -/

namespace Sys2Proof.Machine

/-! ## The line of expected markers -/

/-- An enabled entry of the marker table. -/
def enabledAt (t : MarkerUnit) (i : Nat) : Bool := (t.table[i]?).any (·.enabled)

/-- The chainage lies beyond an entry by more than its window (R69). -/
def missedAt (t : MarkerUnit) (c : Nat) (e : Direction) (i : Nat) : Bool := (t.table[i]?).any fun x => markerPassed e c x

theorem aheadOf_irrefl (e : Direction) (i : Nat) : aheadOf e i i = false := by cases e <;> simp [aheadOf]

theorem markerOrder_sorted (e : Direction) : (markerOrder e).Pairwise fun a b => aheadOf e b a = true := by
  cases e with
  | increasing => simpa [markerOrder, aheadOf] using List.pairwise_lt_range (n := 256)
  | decreasing => simpa [markerOrder, aheadOf, List.pairwise_reverse] using List.pairwise_lt_range (n := 256)

theorem mem_markerOrder (e : Direction) (i : Nat) : i ∈ markerOrder e ↔ i < 256 := by cases e <;> simp [markerOrder]

theorem markerOrder_length (e : Direction) : (markerOrder e).length = 256 := by cases e <;> simp [markerOrder]

/-- The markers from k on in direction order: k, and every enabled one behind it. -/
def lineFrom (e : Direction) (enabled : Nat → Bool) (k : Nat) : List Nat :=
  (markerOrder e).filter fun i => decide (i = k) || (aheadOf e i k && enabled i)

/-- The line from the next expected marker, if there is one. -/
def expectedLine (e : Direction) (enabled : Nat → Bool) : Option Nat → List Nat
  | none => []
  | some k => lineFrom e enabled k

section
variable {e : Direction} {enabled : Nat → Bool} {pre post : List Nat} {k : Nat}

theorem filter_line (sorted : (pre ++ k :: post).Pairwise fun a b => aheadOf e b a = true) :
    (pre ++ k :: post).filter (fun i => decide (i = k) || (aheadOf e i k && enabled i)) = k :: post.filter enabled := by
  obtain ⟨-, behind, before⟩ := List.pairwise_append.1 sorted
  obtain ⟨after, -⟩ := List.pairwise_cons.1 behind
  have none : pre.filter (fun i => decide (i = k) || (aheadOf e i k && enabled i)) = [] := by
    refine List.filter_eq_nil_iff.2 fun i member => ?_
    have ahead := before i member k List.mem_cons_self
    have other : i ≠ k := fun same => by rw [same, aheadOf_irrefl] at ahead; cases ahead
    simp [other, aheadOf_asymm ahead]
  have rest : post.filter (fun i => decide (i = k) || (aheadOf e i k && enabled i)) = post.filter enabled :=
    List.filter_congr fun i member => by
      have ahead := after i member
      have other : i ≠ k := fun same => by rw [same, aheadOf_irrefl] at ahead; cases ahead
      simp [other, ahead]
  rw [List.filter_append, none, List.nil_append, List.filter_cons_of_pos (by simp), rest]

theorem find_after (sorted : (pre ++ k :: post).Pairwise fun a b => aheadOf e b a = true) :
    (pre ++ k :: post).find? (fun i => aheadOf e i k && enabled i) = post.find? enabled := by
  obtain ⟨-, behind, before⟩ := List.pairwise_append.1 sorted
  obtain ⟨after, -⟩ := List.pairwise_cons.1 behind
  have none : pre.find? (fun i => aheadOf e i k && enabled i) = none :=
    List.find?_eq_none.2 fun i member => by simp [aheadOf_asymm (before i member k List.mem_cons_self)]
  have rest : ∀ xs : List Nat, (∀ i ∈ xs, aheadOf e i k = true) → xs.find? (fun i => aheadOf e i k && enabled i) = xs.find? enabled :=
    fun xs all => by
      induction xs with
      | nil => rfl
      | cons x xs ih =>
        simp only [List.find?_cons, all x List.mem_cons_self, Bool.true_and, ih fun i member => all i (List.mem_cons_of_mem x member)]
  rw [List.find?_append, none, Option.none_or, List.find?_cons_of_neg (by simp [aheadOf_irrefl]), rest post after]

/-- The line goes on from the marker that is expected after its first. -/
theorem lineFrom_eq (known : k < 256) :
    lineFrom e enabled k = k :: expectedLine e enabled ((markerOrder e).find? fun i => aheadOf e i k && enabled i) := by
  obtain ⟨pre, post, split⟩ := List.append_of_mem ((mem_markerOrder e k).2 known)
  have sorted := markerOrder_sorted e
  rw [split] at sorted
  rw [lineFrom, split, filter_line sorted, find_after sorted]
  cases found : post.find? enabled with
  | none => rw [List.filter_eq_nil_iff.2 (List.find?_eq_none.1 found)]; rfl
  | some j =>
    obtain ⟨on, mid, rest, rfl, off⟩ := List.find?_eq_some_iff_append.1 found
    have disabled : mid.filter enabled = [] := List.filter_eq_nil_iff.2 fun i member => by simpa using off i member
    have again : pre ++ k :: (mid ++ j :: rest) = (pre ++ k :: mid) ++ j :: rest := by simp
    rw [expectedLine, lineFrom, split, again, filter_line (by rw [← again]; exact sorted), List.filter_append, disabled,
      List.nil_append, List.filter_cons_of_pos on]

end

theorem expectedLine_length (e : Direction) (enabled : Nat → Bool) (x : Option Nat) : (expectedLine e enabled x).length ≤ 256 := by
  cases x with
  | none => exact Nat.zero_le _
  | some k => exact (List.length_filter_le _ _).trans (markerOrder_length e).le

/-! ## Counting misses -/

/-- A run of misses that takes the miss count up to MISS_LIMIT (R70). -/
def reachesLimit (limit before misses : Nat) : Bool := decide (before < limit ∧ limit ≤ min 7 (before + misses))

/-- The quality behind a run of misses (R70). -/
def missedQuality (limit before misses : Nat) (q : Quality) : Quality :=
  if reachesLimit limit before misses then degradedFrom q else q

/-- Misses are counted one by one or together. -/
theorem missedQuality_succ (limit before misses : Nat) (q : Quality) :
    missedQuality limit (min 7 (before + 1)) misses (missedQuality limit before 1 q) = missedQuality limit before (misses + 1) q := by
  have either : reachesLimit limit before (misses + 1) =
      (reachesLimit limit before 1 || reachesLimit limit (min 7 (before + 1)) misses) := by
    simp only [reachesLimit, ← Bool.decide_or, decide_eq_decide]
    omega
  rw [missedQuality, missedQuality, missedQuality, either]
  cases reachesLimit limit before 1 <;> cases reachesLimit limit (min 7 (before + 1)) misses <;>
    simp [degradedFrom_degradedFrom]

theorem missedQuality_zero (limit before : Nat) (q : Quality) : missedQuality limit before 0 q = q := by
  rw [missedQuality, reachesLimit, decide_eq_false (by omega)]
  rfl

/-- One miss, before it lowers the quality (R69). -/
def missNoted (e : Direction) (k : Nat) (s : State) : State :=
  raiseAll .markerMiss
    { s with mku := { s.mku with missCount := min 7 (s.mku.missCount + 1), nextExpected := markerAfter s e k } }

theorem countMiss_eq (e : Direction) (k : Nat) (s : State) :
    countMiss e k s = if reachesLimit s.setup.missLimit s.mku.missCount 1 then degrade (missNoted e k s) else missNoted e k s := by
  have flag : (decide (s.mku.missCount < 7) && decide ((missNoted e k s).mku.missCount = s.setup.missLimit)) =
      reachesLimit s.setup.missLimit s.mku.missCount 1 := by
    have count : (missNoted e k s).mku.missCount = min 7 (s.mku.missCount + 1) := rfl
    rw [count, reachesLimit, ← Bool.decide_and, decide_eq_decide]
    omega
  rw [← flag]
  rfl

theorem missNoted_follows (e : Direction) (k : Nat) (s : State) : Follows s (missNoted e k s) := by
  refine ⟨rfl, fun f p stands => ?_, fun changes => absurd rfl changes, ?_⟩
  · have moved := raiseAll_keepsEvents .markerMiss
      ({ s with mku := { s.mku with missCount := min 7 (s.mku.missCount + 1), nextExpected := markerAfter s e k } } : State) f p
    cases p <;> exact moved stands
  · change s.slb = { s.slb with openSlices := toldOf s.chu.quality s.chu.quality s.slb.openSlices }
    rw [toldOf_same]

theorem countMiss_follows (e : Direction) (k : Nat) (s : State) : Follows s (countMiss e k s) := by
  rw [countMiss_eq]
  split
  · exact (missNoted_follows e k s).trans (degrade_follows _) (.inl rfl)
  · exact missNoted_follows e k s

theorem countMiss_mku (e : Direction) (k : Nat) (s : State) :
    (countMiss e k s).mku = { s.mku with missCount := min 7 (s.mku.missCount + 1), nextExpected := markerAfter s e k } := by
  rw [countMiss_eq]
  split
  · rw [degrade_mku]; rfl
  · rfl

theorem countMiss_chu (e : Direction) (k : Nat) (s : State) :
    (countMiss e k s).chu =
      { s.chu with quality := missedQuality s.setup.missLimit s.mku.missCount 1 s.chu.quality } := by
  rw [countMiss_eq, missedQuality]
  split
  · rw [degrade_chu]; rfl
  · rfl

theorem countMiss_raises (e : Direction) (k : Nat) (s : State) (p : PortId) :
    outstanding .markerMiss ((countMiss e k s).port p) = true := by
  have noted : outstanding .markerMiss ((missNoted e k s).port p) = true := raiseAll_outstanding _ _ p
  rw [countMiss_eq]
  split
  · exact (degrade_follows _).events _ _ noted
  · exact noted

/-- With no marker expected, or in an UNDETERMINED direction, nothing is missed. -/
theorem missCheckFrom_idle {s : State} (idle : s.mku.nextExpected = none ∨ s.chu.direction = none) (n : Nat) : missCheckFrom n s = s := by
  cases n with
  | zero => rfl
  | succ n =>
    unfold missCheckFrom
    rcases idle with none | none
    · rw [none]
    · rw [none]
      cases s.mku.nextExpected <;> rfl

theorem missCheckFrom_step {n k : Nat} {e : Direction} {s : State} (next : s.mku.nextExpected = some k)
    (direction : s.chu.direction = some e) :
    missCheckFrom (n + 1) s =
      if markerPassed e (chainageMm s) (markerAt s k) then missCheckFrom n (countMiss e k s) else s := by
  rw [missCheckFrom, next, direction]

/-- However many markers are compared: the position keeps all but its quality, which is lowered at most once (R70). -/
theorem missCheckFrom_follows (n : Nat) (s : State) :
    Follows s (missCheckFrom n s) ∧ ∃ q, (q = s.chu.quality ∨ q = degradedFrom s.chu.quality) ∧
      (missCheckFrom n s).chu = { s.chu with quality := q } := by
  induction n generalizing s with
  | zero => exact ⟨.refl s, s.chu.quality, .inl rfl, rfl⟩
  | succ n ih =>
    by_cases idle : s.mku.nextExpected = none ∨ s.chu.direction = none
    · rw [missCheckFrom_idle idle]
      exact ⟨.refl s, s.chu.quality, .inl rfl, rfl⟩
    obtain ⟨k, next⟩ := Option.ne_none_iff_exists'.1 fun none => idle (.inl none)
    obtain ⟨e, direction⟩ := Option.ne_none_iff_exists'.1 fun none => idle (.inr none)
    rw [missCheckFrom_step next direction]
    split
    · obtain ⟨follows, q, quality, chu⟩ := ih (countMiss e k s)
      have one := countMiss_chu e k s
      rw [one] at chu quality
      dsimp only at chu quality
      rw [missedQuality] at quality
      refine ⟨(countMiss_follows e k s).trans follows ?_, q, ?_, chu⟩
      · rw [one, chu]
        dsimp only
        rw [missedQuality]
        split at quality
        · rw [degradedFrom_degradedFrom] at quality
          rename_i limit
          exact .inr (by rw [if_pos limit]; exact quality.elim id id)
        · rename_i limit
          exact .inl (if_neg limit)
      · split at quality
        · rw [degradedFrom_degradedFrom] at quality
          exact .inr (quality.elim id id)
        · exact quality
    · exact ⟨.refl s, s.chu.quality, .inl rfl, rfl⟩

theorem markerPassed_markerAt {s : State} {k c : Nat} {e : Direction} (known : k < 256) :
    markerPassed e c (markerAt s k) = missedAt s.mku c e k := by
  simp [markerAt, missedAt, known]

/-- What n comparisons leave when the misses are those at the front of a line, and the first that is not missed is expected next
(R69, R70). -/
structure MissesOf (line : List Nat) (e : Direction) (s t : State) : Prop where
  mku : t.mku = { s.mku with
    missCount := if line.takeWhile (missedAt s.mku (chainageMm s) e) = [] then s.mku.missCount
      else min 7 (s.mku.missCount + (line.takeWhile (missedAt s.mku (chainageMm s) e)).length),
    nextExpected := (line.dropWhile (missedAt s.mku (chainageMm s) e)).head? }
  chu : t.chu = { s.chu with
    quality := missedQuality s.setup.missLimit s.mku.missCount (line.takeWhile (missedAt s.mku (chainageMm s) e)).length s.chu.quality }
  raised : line.takeWhile (missedAt s.mku (chainageMm s) e) ≠ [] → ∀ p, outstanding .markerMiss (t.port p) = true

/-- Nothing is missed when the first of the line is not. -/
theorem MissesOf.none {line : List Nat} {e : Direction} {s : State} (first : line.head? = s.mku.nextExpected)
    (stands : line.takeWhile (missedAt s.mku (chainageMm s) e) = []) : MissesOf line e s s := by
  have rest : line.dropWhile (missedAt s.mku (chainageMm s) e) = line := by
    have whole := List.takeWhile_append_dropWhile (p := missedAt s.mku (chainageMm s) e) (l := line)
    rwa [stands, List.nil_append] at whole
  refine ⟨?_, ?_, fun some => absurd stands some⟩
  · rw [if_pos stands, rest, first]
  · rw [stands, List.length_nil, missedQuality_zero]

/-- One miss, and those behind it. -/
theorem MissesOf.cons {line : List Nat} {e : Direction} {k : Nat} {s t : State} (missed : missedAt s.mku (chainageMm s) e k = true)
    (rest : MissesOf line e (countMiss e k s) t) (events : keepsEvents (countMiss e k s) t) : MissesOf (k :: line) e s t := by
  have mku := countMiss_mku e k s
  have chu := countMiss_chu e k s
  have setup := setup_of_position (countMiss_position e k s)
  have same : missedAt (countMiss e k s).mku (chainageMm (countMiss e k s)) e = missedAt s.mku (chainageMm s) e := by
    rw [chainageMm, mku, chu]; rfl
  obtain ⟨restMku, restChu, -⟩ := rest
  rw [same, mku] at restMku
  rw [same, mku, chu, setup] at restChu
  refine ⟨?_, ?_, fun _ p => events _ _ (countMiss_raises e k s p)⟩
  · rw [List.takeWhile_cons_of_pos missed, List.dropWhile_cons_of_pos missed, restMku, if_neg (List.cons_ne_nil _ _), List.length_cons]
    have count : (if line.takeWhile (missedAt s.mku (chainageMm s) e) = [] then min 7 (s.mku.missCount + 1)
        else min 7 (min 7 (s.mku.missCount + 1) + (line.takeWhile (missedAt s.mku (chainageMm s) e)).length)) =
        min 7 (s.mku.missCount + ((line.takeWhile (missedAt s.mku (chainageMm s) e)).length + 1)) := by
      split
      · rename_i none; rw [none]; rfl
      · omega
    rw [count]
  · rw [List.takeWhile_cons_of_pos missed, List.length_cons, restChu, missedQuality_succ]

/-- The misses of a window end: those at the front of the line (R69). -/
theorem missCheckFrom_line {n : Nat} {e : Direction} {s : State} (direction : s.chu.direction = some e)
    (known : ∀ k, s.mku.nextExpected = some k → k < 256)
    (enough : (expectedLine e (enabledAt s.mku) s.mku.nextExpected).length ≤ n) :
    MissesOf (expectedLine e (enabledAt s.mku) s.mku.nextExpected) e s (missCheckFrom n s) := by
  induction n generalizing s with
  | zero =>
    have empty := List.length_eq_zero_iff.1 (Nat.le_zero.1 enough)
    have none : s.mku.nextExpected = none := by
      by_contra some
      obtain ⟨k, next⟩ := Option.ne_none_iff_exists'.1 some
      rw [next, expectedLine, lineFrom_eq (known k next)] at empty
      cases empty
    rw [none]
    exact .none none.symm rfl
  | succ n ih =>
    cases next : s.mku.nextExpected with
    | none =>
      rw [missCheckFrom_idle (.inl next)]
      exact .none next.symm rfl
    | some k =>
      have inside := known k next
      have after : markerAfter s e k = (markerOrder e).find? fun i => aheadOf e i k && enabledAt s.mku i := markerAfter_eq s e k
      rw [next, expectedLine, lineFrom_eq inside, ← after] at enough
      rw [missCheckFrom_step next direction, markerPassed_markerAt inside, expectedLine, lineFrom_eq inside, ← after]
      by_cases missed : missedAt s.mku (chainageMm s) e k = true
      · rw [if_pos missed]
        have mku := countMiss_mku e k s
        have table : enabledAt (countMiss e k s).mku = enabledAt s.mku := by rw [mku]; rfl
        have expected : (countMiss e k s).mku.nextExpected = markerAfter s e k := by rw [mku]
        refine .cons missed ?_ (missCheckFrom_follows n _).1.events
        rw [← table, ← expected]
        refine ih (by rw [countMiss_chu]; exact direction) (fun j found => ?_) ?_
        · rw [expected, after] at found
          exact (mem_markerOrder e j).1 (List.mem_of_find?_eq_some found)
        · rw [table, expected]
          simpa using enough
      · rw [if_neg missed]
        exact .none next.symm (List.takeWhile_cons_of_neg missed)

end Sys2Proof.Machine

/-! PROOF. The window end: O19. -/

namespace Sys2Proof.Machine

/-! ## The Chainage Unit -/

theorem directed_eq (d : Int) (c : ChainageUnit) :
    directed d c = { c with
      direction := (directed d c).direction, reversal := (directed d c).reversal, determination := (directed d c).determination } := by
  unfold directed accumulated
  split
  · rfl
  · split
    · rfl
    · split
      · rfl
      · split <;> rfl

theorem travelled_eq (tol : Nat) (d : Int) (c : ChainageUnit) :
    travelled tol d c = { c with
      travel := min 999999999000 (c.travel + d.natAbs), slip := (travelled tol d c).slip,
      slipTravel := (travelled tol d c).slipTravel, slipLeft := (travelled tol d c).slipLeft,
      slipRight := (travelled tol d c).slipRight } := by
  unfold travelled
  dsimp only
  split
  · rfl
  · split <;> rfl

/-- The Chainage Unit after a window end, but for the quality. -/
def windowed (s : State) : ChainageUnit :=
  let d := fusedDistance s
  cleared (travelled s.setup.slipTol d (directed d (speeded d (fuseChainage s).chu)))

theorem windowed_fields (s : State) :
    let d := fusedDistance s
    let c := (fuseChainage s).chu
    (windowed s).chainage = c.chainage ∧ (windowed s).remainder = c.remainder ∧
      (windowed s).speedHistory = (speeded d c).speedHistory ∧
      (windowed s).left = { c.left with delta := 0, illegal := 0 } ∧ (windowed s).right = { c.right with delta := 0, illegal := 0 } ∧
      (windowed s).travel = min 999999999000 (c.travel + d.natAbs) ∧ (windowed s).direction = (directed d c).direction ∧
      (windowed s).reversal = (directed d c).reversal ∧ (windowed s).determination = (directed d c).determination ∧
      (windowed s).slip = (travelled s.setup.slipTol d c).slip ∧
      (windowed s).slipTravel = (travelled s.setup.slipTol d c).slipTravel ∧
      (windowed s).slipLeft = (travelled s.setup.slipTol d c).slipLeft ∧
      (windowed s).slipRight = (travelled s.setup.slipTol d c).slipRight := by
  intro d c
  have speed : directed d (speeded d c) = { directed d c with speedHistory := (speeded d c).speedHistory } := by
    have turns : turnsTo d (speeded d c) = turnsTo d c := rfl
    have stays : accumulated d (speeded d c) = { accumulated d c with speedHistory := (speeded d c).speedHistory } := by
      unfold accumulated speeded
      dsimp only
      split
      · rfl
      · split
        · rfl
        · split <;> rfl
    unfold directed
    rw [turns, stays]
    split <;> rfl
  have slip : ∀ a b e h, travelled s.setup.slipTol d { c with direction := a, reversal := b, determination := e, speedHistory := h } =
      { travelled s.setup.slipTol d c with direction := a, reversal := b, determination := e, speedHistory := h } := fun a b e h => by
    unfold travelled
    dsimp only
    split
    · rfl
    · split <;> rfl
  have whole : windowed s = cleared { travelled s.setup.slipTol d c with
      direction := (directed d c).direction, reversal := (directed d c).reversal, determination := (directed d c).determination,
      speedHistory := (speeded d c).speedHistory } := by
    rw [windowed, speed, directed_eq]
    exact congrArg cleared (slip _ _ _ _)
  rw [whole, travelled_eq]
  exact ⟨rfl, rfl, rfl, rfl, rfl, rfl, rfl, rfl, rfl, rfl, rfl, rfl, rfl⟩

/-! ## The fusion (R40, R41) -/

theorem fuseChainage_follows (s : State) : Follows s (fuseChainage s) := follows_of_chu rfl

/-- A change to LOST forgets the next expected marker (R68). -/
theorem changeQuality_lost_next {s : State} (found : s.chu.quality ≠ .lost) : (changeQuality .lost s).mku.nextExpected = none := by
  rw [changeQuality_of_ne found, if_pos rfl, segmentBreak_mku, toldQuality, evaluateAdvice_mku]
  rfl

/-- A clamped sum found the quality other than LOST: the misses are counted before or after the change to LOST, which forgets the
next expected marker (R41, R69, log entry 3). -/
theorem clampAndMiss_of_found {s : State} (found : s.chu.quality ≠ .lost) :
    ∃ x, Follows s x ∧ x.chu.quality ≠ .lost ∧ (∃ q, x.chu = { s.chu with quality := q }) ∧
      clampAndMiss s = changeQuality .lost x := by
  have free : Follows s (useFree s) :=
    ⟨rfl, keepsEvents_of_ports fun p => by cases p <;> rfl, fun changes => absurd rfl changes, by
      change s.slb = { s.slb with openSlices := toldOf s.chu.quality s.chu.quality s.slb.openSlices }
      rw [toldOf_same]⟩
  have forgets : ∀ x : State, x.chu.quality ≠ .lost → missCheck (changeQuality .lost x) = changeQuality .lost x := fun x other =>
    missCheckFrom_idle (.inl (changeQuality_lost_next other)) 256
  unfold clampAndMiss
  split
  · exact ⟨s, .refl s, found, ⟨s.chu.quality, rfl⟩, forgets s found⟩
  · split
    · obtain ⟨follows, q, quality, chu⟩ := missCheckFrom_follows 256 (useFree s)
      refine ⟨missCheck (useFree s), free.trans follows (.inl rfl), ?_, ⟨q, chu⟩, rfl⟩
      have other : q ≠ .lost := by
        rcases quality with same | same
        · rw [same]; exact found
        · rw [same]; exact degradedFrom_ne_lost found
      change (missCheckFrom 256 (useFree s)).chu.quality ≠ .lost
      rw [chu]
      exact other
    · exact ⟨useFree s, free, found, ⟨s.chu.quality, rfl⟩, forgets (useFree s) found⟩

theorem clampAndMiss_of_lost {s : State} (lost : s.chu.quality = .lost) : clampAndMiss s = missCheck s := by
  rw [clampAndMiss, if_pos (.inr lost), changeQuality_same_quality lost]

/-- A clamped sum leaves the quality LOST (R41). -/
theorem clampAndMiss_chu (s : State) : (clampAndMiss s).chu = { s.chu with quality := .lost } := by
  by_cases lost : s.chu.quality = .lost
  · obtain ⟨-, q, quality, chu⟩ := missCheckFrom_follows 256 s
    rw [clampAndMiss_of_lost lost]
    refine chu.trans ?_
    rw [lost] at quality
    rw [quality.elim id id]
  · obtain ⟨x, -, -, ⟨q, chu⟩, same⟩ := clampAndMiss_of_found lost
    rw [same, changeQuality_chu, chu]

theorem windowFusion_chu (s : State) : ∃ q, (windowFusion s).chu = { (fuseChainage s).chu with quality := q } := by
  unfold windowFusion
  split
  · exact ⟨.lost, clampAndMiss_chu _⟩
  · obtain ⟨-, q, -, chu⟩ := missCheckFrom_follows 256 (fuseChainage s)
    exact ⟨q, chu⟩

/-! ## The window end, step by step -/

/-- Steps 1 to 3. -/
def untilDirection (s : State) : State := windowDirection (fusedDistance s) (windowSpeed (fusedDistance s) (windowFusion s))

theorem takeWindowEnd_eq (s : State) : takeWindowEnd s = closeTest (afterDirection (fusedDistance s) (untilDirection s)) := rfl

theorem untilDirection_chu (s : State) :
    (untilDirection s).chu =
      { directed (fusedDistance s) (speeded (fusedDistance s) (fuseChainage s).chu) with quality := (windowFusion s).chu.quality } := by
  obtain ⟨q, chu⟩ := windowFusion_chu s
  rw [untilDirection, windowDirection_chu]
  change directed _ (speeded _ (windowFusion s).chu) = _
  rw [chu]
  exact directed_withQuality _ (speeded (fusedDistance s) (fuseChainage s).chu) q

theorem untilDirection_position (s : State) : positionMask (untilDirection s) = positionMask s :=
  (windowDirection_position _ _).trans (windowFusion_position s)

theorem takeWindowEnd_same (s : State) :
    SameButSlices (takeWindowEnd s) (afterDirection (fusedDistance s) (untilDirection s)) := sameButSlices (closeTest_slices _)

/-- The Chainage Unit after a window end. -/
theorem takeWindowEnd_chu (s : State) :
    (takeWindowEnd s).chu = { windowed s with
      quality := laterQuality s.setup (fusedDistance s) (untilDirection s).chu } := by
  have setup := setup_of_position (untilDirection_position s)
  rw [(takeWindowEnd_same s).chu, afterDirection_chu, setup]
  rw [untilDirection_chu, travelled_withQuality]
  rfl

theorem findsSlip_untilDirection (tol : Nat) (s : State) :
    findsSlip tol (fusedDistance s) (untilDirection s).chu = findsSlip tol (fusedDistance s) s.chu := by
  rw [untilDirection_chu, directed_eq]
  rfl

/-- The quality after a window end, from the one behind the fusion and the misses (R43, R48). -/
theorem takeWindowEnd_quality (s : State) :
    (takeWindowEnd s).chu.quality = heldQuality s.setup.surveyHold (takeWindowEnd s).chu.travel
      (if findsSlip s.setup.slipTol (fusedDistance s) s.chu then degradedFrom (windowFusion s).chu.quality
        else (windowFusion s).chu.quality) := by
  have quality : (untilDirection s).chu.quality = (windowFusion s).chu.quality := by rw [untilDirection_chu]
  have travel : (windowed s).travel =
      (travelled s.setup.slipTol (fusedDistance s) (untilDirection s).chu).travel := by
    rw [untilDirection_chu, travelled_withQuality]; rfl
  rw [takeWindowEnd_chu]
  dsimp only
  rw [laterQuality, slippedQuality, findsSlip_untilDirection, quality, travel]

/-- A quality that the misses have lowered is not lowered again. -/
theorem laterQuality_of_degraded {u : Setup} {d : Int} {c : ChainageUnit} (low : c.quality ≠ .surveyed ∧ c.quality ≠ .deadReckoned) :
    laterQuality u d c = c.quality := by
  have slipped : slippedQuality u.slipTol d c = c.quality := by
    rw [slippedQuality, degradedFrom, if_neg (not_or.2 low), ite_self]
  rw [laterQuality, slipped, heldQuality_of_ne low.1]

/-! ### Events -/

theorem untilDirection_keepsEvents (s : State) : keepsEvents (windowFusion s) (untilDirection s) := by
  have sped : keepsEvents (windowFusion s) (windowSpeed (fusedDistance s) (windowFusion s)) :=
    keepsEvents_of_ports fun p => by cases p <;> rfl
  exact sped.trans (windowDirection_keepsEvents _ _)

theorem takeWindowEnd_keepsEvents (s : State) : keepsEvents (untilDirection s) (takeWindowEnd s) :=
  (afterDirection_follows (fusedDistance s) (untilDirection s)).events.trans (closeTest_keepsEvents _)

theorem windowFusion_told {s : State} (changes : (windowFusion s).chu.quality ≠ s.chu.quality) (p : PortId) :
    outstanding .qualityChange ((windowFusion s).port p) = true := by
  have checked : ∀ u, Follows s u → (missCheck u).chu.quality ≠ s.chu.quality → u.chu.quality = s.chu.quality →
      outstanding .qualityChange ((missCheck u).port p) = true := fun u follows other same =>
    (follows.trans (missCheckFrom_follows 256 u).1 (.inl same)).told other p
  unfold windowFusion at changes ⊢
  split at changes
  · rename_i clamps
    rw [if_pos clamps]
    by_cases lost : s.chu.quality = .lost
    · rw [clampAndMiss_of_lost (s := fuseChainage s) lost] at changes ⊢
      exact checked _ (fuseChainage_follows s) changes rfl
    · obtain ⟨x, -, other, -, same⟩ := clampAndMiss_of_found (s := fuseChainage s) lost
      rw [same]
      exact changeQuality_raises other p
  · rename_i sound
    rw [if_neg sound]
    exact checked _ (fuseChainage_follows s) changes rfl

/-- A window end that changes the quality raises QUALITY_CHANGE (R49). -/
theorem takeWindowEnd_told {s : State} (changes : (takeWindowEnd s).chu.quality ≠ s.chu.quality) (p : PortId) :
    outstanding .qualityChange ((takeWindowEnd s).port p) = true := by
  have quality : (untilDirection s).chu.quality = (windowFusion s).chu.quality := by rw [untilDirection_chu]
  have later := afterDirection_follows (fusedDistance s) (untilDirection s)
  by_cases here : (windowFusion s).chu.quality = s.chu.quality
  · refine closeTest_keepsEvents _ _ _ (later.told (fun stays => changes ?_) p)
    rw [(takeWindowEnd_same s).chu, stays, quality, here]
  · exact takeWindowEnd_keepsEvents s _ _ (untilDirection_keepsEvents s _ _ (windowFusion_told here p))

/-! ### Turns -/

/-- The direction a window end turns to, if it turns. -/
def turn (s : State) : Option Direction := turnsTo (fusedDistance s) s.chu

theorem turn_eq (s : State) : turnsTo (fusedDistance s) (windowSpeed (fusedDistance s) (windowFusion s)).chu = turn s := by
  obtain ⟨q, chu⟩ := windowFusion_chu s
  change turnsTo _ (speeded _ (windowFusion s).chu) = _
  rw [chu]
  rfl

theorem takeWindowEnd_direction (s : State) : (takeWindowEnd s).chu.direction = (turn s <|> s.chu.direction) := by
  obtain ⟨-, -, -, -, -, -, direction, -⟩ := windowed_fields s
  rw [takeWindowEnd_chu]
  exact direction.trans (directed_direction _ _)

theorem turned_iff (s : State) : (takeWindowEnd s).chu.direction ≠ s.chu.direction ↔ turn s ≠ none := by
  rw [takeWindowEnd_direction]
  cases turns : turn s with
  | none => simp
  | some e => simpa using (turnsTo_ne turns).symm

theorem untilDirection_of_no_turn {s : State} (stays : turn s = none) :
    (untilDirection s).slb = (windowFusion s).slb ∧ (untilDirection s).mku = (windowFusion s).mku := by
  rw [untilDirection, windowDirection_eq, turn_eq, stays]
  exact ⟨rfl, rfl⟩

theorem untilDirection_of_turn {s : State} {e : Direction} (turns : turn s = some e) :
    untilDirection s = reportDirection e (turning e (windowSpeed (fusedDistance s) (windowFusion s))) := by
  rw [untilDirection, windowDirection_eq, turn_eq, turns]
  rfl

theorem turning_slb (e : Direction) (s : State) : (turning e s).slb = s.slb := by
  obtain ⟨n, same⟩ := turning_eq e s
  rw [same]; rfl

theorem turning_chu (e : Direction) (s : State) : (turning e s).chu = turnedTo e s.chu := by
  obtain ⟨n, same⟩ := turning_eq e s
  rw [same]; rfl

/-- A turn that breaks the segment (R79). -/
theorem untilDirection_of_break {s : State} {e : Direction} (turns : turn s = some e) (running : (windowFusion s).slb.run = .running)
    (determined : (windowFusion s).slb.direction ≠ none) (other : (windowFusion s).slb.direction ≠ some e) :
    untilDirection s = segmentBreak (turning e (windowSpeed (fusedDistance s) (windowFusion s))) := by
  rw [untilDirection_of_turn turns]
  exact reportDirection_of_break (by rw [turning_slb]; exact running) (by rw [turning_slb]; exact determined)
    (by rw [turning_slb]; exact other)

/-- Any other window end leaves the segment, but for a first determination of its direction (R78). -/
theorem untilDirection_slb {s : State}
    (stays : ∀ e, turn s = some e → ¬ ((windowFusion s).slb.run = .running ∧ (windowFusion s).slb.direction ≠ none ∧
      (windowFusion s).slb.direction ≠ some e)) :
    (untilDirection s).slb = { (windowFusion s).slb with
      direction := if (windowFusion s).slb.run = .running ∧ turn s ≠ none ∧ (windowFusion s).slb.direction = none then turn s
        else (windowFusion s).slb.direction } := by
  cases turns : turn s with
  | none =>
    rw [(untilDirection_of_no_turn turns).1, if_neg fun all => all.2.1 rfl]
  | some e =>
    have slb := turning_slb e (windowSpeed (fusedDistance s) (windowFusion s))
    have same : (windowSpeed (fusedDistance s) (windowFusion s)).slb = (windowFusion s).slb := rfl
    rw [untilDirection_of_turn turns, reportDirection_slb (by rw [slb]; exact stays e turns), slb, same]
    simp only [ne_eq, reduceCtorEq, not_false_eq_true, true_and]

/-! ### Slices -/

/-- The open slices behind the last steps, which tell them of the quality (R90). -/
theorem afterDirection_slb (s : State) :
    (afterDirection (fusedDistance s) (untilDirection s)).slb = { (untilDirection s).slb with
      openSlices := toldOf (windowFusion s).chu.quality (takeWindowEnd s).chu.quality (untilDirection s).slb.openSlices } := by
  have quality : (untilDirection s).chu.quality = (windowFusion s).chu.quality := by rw [untilDirection_chu]
  rw [(afterDirection_follows _ _).slb, quality, (takeWindowEnd_same s).chu]

/-- A window end that finds no slice open behind its direction closes none. -/
theorem takeWindowEnd_slb_of_no_open {s : State} (none : (untilDirection s).slb.openSlices = []) :
    (takeWindowEnd s).slb = (untilDirection s).slb := by
  have slb := afterDirection_slb s
  have opened : (afterDirection (fusedDistance s) (untilDirection s)).slb.openSlices = [] := by
    rw [slb]; exact (toldOf_eq_nil _ _ _).2 none
  have stays : (untilDirection s).slb = { (untilDirection s).slb with openSlices := [] } := by rw [← none]
  rw [takeWindowEnd_eq, closeTest_of_no_open opened, slb, (toldOf_eq_nil _ _ _).2 none, ← stays]

/-- The close test behind a window end (R92). -/
theorem takeWindowEnd_slb (s : State) :
    let xs := toldOf (windowFusion s).chu.quality (takeWindowEnd s).chu.quality (untilDirection s).slb.openSlices
    (takeWindowEnd s).slb.openSlices = xs.dropWhile (passedByAll (takeWindowEnd s)) ∧
      (takeWindowEnd s).slb.pendingSlices = (untilDirection s).slb.pendingSlices ++
        (xs.takeWhile (passedByAll (takeWindowEnd s))).map (closedSlice .passage s) ∧
      (takeWindowEnd s).slb.run = (untilDirection s).slb.run ∧ (takeWindowEnd s).slb.segment = (untilDirection s).slb.segment ∧
      (takeWindowEnd s).slb.direction = (untilDirection s).slb.direction := by
  intro xs
  obtain ⟨v, here⟩ : ∃ v, afterDirection (fusedDistance s) (untilDirection s) = v := ⟨_, rfl⟩
  have masked : positionMask v = positionMask s :=
    here ▸ (afterDirection_follows _ _).masked.trans (untilDirection_position s)
  have closes : closedSlice .passage v = closedSlice .passage s := funext fun x =>
    closedSlice_congr (congrArg State.env masked :) (congrArg State.setup masked :) (congrArg State.timebase masked :) .passage x
  have passed : passedByAll (takeWindowEnd s) = passedByAll v := here ▸ funext (passedByAll_same (takeWindowEnd_same s))
  have test := closeTest_slb v
  rw [← here, ← takeWindowEnd_eq, here] at test
  have slb : v.slb = { (untilDirection s).slb with openSlices := xs } := here ▸ afterDirection_slb s
  rw [passed, test, closes, slb]
  exact ⟨rfl, rfl, rfl, rfl, rfl⟩

/-! ### A clamped sum in RUNNING -/

/-- The number of a segment after a break (R79, R80). -/
theorem brokenSegment_toNat (n : BitVec 16) : (if n = 65535 then n else n + 1).toNat = min 65535 (n.toNat + 1) := by
  split
  · rename_i last; rw [last]; rfl
  · rename_i more; bv_omega

theorem lastSegment_iff (n : BitVec 16) : n = 65535 ↔ n.toNat = 65535 :=
  ⟨fun last => by rw [last]; rfl, fun last => BitVec.eq_of_toNat_eq last⟩

/-- The change to LOST at a clamped sum breaks a running segment (R41, R79). -/
theorem windowFusion_of_clamp {s : State} (clamps : sumClamps s = true) (found : s.chu.quality ≠ .lost)
    (running : s.slb.run = .running) :
    let u := windowFusion s
    u.slb.openSlices = [] ∧ (u.slb.pendingSlices = [] ↔ s.slb.openSlices = [] ∧ s.slb.pendingSlices = []) ∧
      u.slb.segment = (if s.slb.segment = 65535 then s.slb.segment else s.slb.segment + 1) ∧
      u.slb.run = (if s.slb.segment ≠ 65535 then .running else
        if s.slb.openSlices = [] ∧ s.slb.pendingSlices = [] then .idle else .draining) ∧
      (s.slb.segment = 65535 → ∀ p, outstanding .runState (u.port p) = true) ∧ u.slb.direction = s.chu.direction ∧
      ∀ p, outstanding .segmentBreak (u.port p) = true := by
  obtain ⟨x, follows, other, ⟨q, chu⟩, same⟩ := clampAndMiss_of_found (s := fuseChainage s) found
  have slb : x.slb = { s.slb with openSlices := toldOf s.chu.quality x.chu.quality s.slb.openSlices } := follows.slb
  obtain ⟨toldChu, toldSlb, -⟩ := toldQuality_fields .lost x
  have opened : (toldQuality .lost x).slb.openSlices = [] ↔ s.slb.openSlices = [] := by
    rw [toldSlb, slb]
    exact (loweredTo_eq_nil _ _).trans (toldOf_eq_nil _ _ _)
  have run : (toldQuality .lost x).slb.run = .running := by rw [toldSlb, slb]; exact running
  have pending : (toldQuality .lost x).slb.pendingSlices = s.slb.pendingSlices := by rw [toldSlb, slb]
  have direction : (toldQuality .lost x).chu.direction = s.chu.direction := by rw [toldChu, chu]; rfl
  have breaks : windowFusion s = segmentBreak (toldQuality .lost x) := by
    rw [windowFusion, if_pos clamps, same, changeQuality_of_ne other, if_pos rfl]
  obtain ⟨none, segment, ended, raised, started, broken⟩ :=
    segmentBreak_summary (b := s.slb) run (by rw [toldSlb, slb]) opened pending
  intro u
  rw [show u = segmentBreak (toldQuality .lost x) from breaks]
  refine ⟨none, ?_, segment, ended, raised, started.trans direction, broken⟩
  rw [segmentBreak_slb run]
  simp [pending, opened, and_comm]

/-- A clamped sum in RUNNING breaks the segment, and a turn breaks it again while the run goes on (R41, R79, R80). -/
theorem takeWindowEnd_of_clamp {s : State} (clamps : sumClamps s = true) (found : s.chu.quality ≠ .lost)
    (running : s.slb.run = .running) :
    let t := takeWindowEnd s
    let reached := s.slb.segment.toNat + (if s.chu.direction ≠ none ∧ t.chu.direction ≠ s.chu.direction then 2 else 1)
    t.slb.openSlices = [] ∧ t.slb.segment.toNat = min 65535 reached ∧
      t.slb.run = (if reached ≤ 65535 then .running else
        if s.slb.openSlices = [] ∧ s.slb.pendingSlices = [] then .idle else .draining) ∧
      (65535 < reached → ∀ p, outstanding .runState (t.port p) = true) ∧
      ∀ p, outstanding .segmentBreak (t.port p) = true := by
  intro t reached
  obtain ⟨opened, pending, segment, run, ended, direction, broken⟩ := windowFusion_of_clamp clamps found running
  have kept : ∀ e p, outstanding e ((windowFusion s).port p) = true → outstanding e (t.port p) = true := fun e p stands =>
    takeWindowEnd_keepsEvents s e p (untilDirection_keepsEvents s e p stands)
  have number : (windowFusion s).slb.segment.toNat = min 65535 (s.slb.segment.toNat + 1) := by
    rw [segment, brokenSegment_toNat]
  have last := lastSegment_iff s.slb.segment
  by_cases again : ∃ e, turn s = some e ∧ s.slb.segment ≠ 65535 ∧ s.chu.direction ≠ none
  · obtain ⟨e, turns, more, determined⟩ := again
    have goes : (windowFusion s).slb.run = .running := by rw [run, if_pos more]
    have breaks := untilDirection_of_break turns goes (by rw [direction]; exact determined) (by rw [direction]; exact turnsTo_ne turns)
    let w := turning e (windowSpeed (fusedDistance s) (windowFusion s))
    have slb : w.slb = (windowFusion s).slb := turning_slb e _
    obtain ⟨none, segment', run', ended', -, -⟩ :=
      segmentBreak_summary (b := (windowFusion s).slb) (u := w) (by rw [slb]; exact goes) (by rw [slb]) (by rw [slb]) (by rw [slb])
    rw [← breaks] at none segment' run' ended'
    have stays : t.slb = (untilDirection s).slb := takeWindowEnd_slb_of_no_open none
    have two : reached = s.slb.segment.toNat + 2 := by
      simp only [reached]
      rw [if_pos ⟨determined, (turned_iff s).2 (by rw [turns]; simp)⟩]
    have short : s.slb.segment.toNat < 65535 := by
      have size := s.slb.segment.isLt
      have apart : s.slb.segment.toNat ≠ 65535 := fun same => more (last.2 same)
      omega
    have final : (windowFusion s).slb.segment = 65535 ↔ 65535 < reached :=
      (lastSegment_iff _).trans (by rw [number, two]; omega)
    refine ⟨by rw [stays, none], ?_, ?_, fun beyond p => takeWindowEnd_keepsEvents s _ p (ended' (final.2 beyond) p),
      fun p => kept _ p (broken p)⟩
    · rw [stays, segment', brokenSegment_toNat, number, two]; omega
    · rw [stays, run']
      refine if_congr ((not_congr final).trans Nat.not_lt) rfl (if_congr ?_ rfl rfl)
      rw [pending, and_iff_right opened]
  · have stays : ∀ e, turn s = some e → ¬ ((windowFusion s).slb.run = .running ∧ (windowFusion s).slb.direction ≠ none ∧
        (windowFusion s).slb.direction ≠ some e) := fun e turns ⟨goes, determined, _⟩ => by
      refine again ⟨e, turns, fun final => ?_, by rwa [direction] at determined⟩
      rw [run, if_neg (not_not.2 final)] at goes
      split at goes <;> cases goes
    have turnedSlb := untilDirection_slb stays
    have none : (untilDirection s).slb.openSlices = [] := by rw [turnedSlb]; exact opened
    have slb : t.slb = (untilDirection s).slb := takeWindowEnd_slb_of_no_open none
    have one : s.slb.segment.toNat = 65535 ∨ reached = s.slb.segment.toNat + 1 := by
      by_cases final : s.slb.segment = 65535
      · exact .inl (last.1 final)
      · refine .inr ?_
        simp only [reached]
        rw [if_neg]
        rintro ⟨determined, turned⟩
        obtain ⟨e, turns⟩ := Option.ne_none_iff_exists'.1 ((turned_iff s).1 turned)
        exact again ⟨e, turns, final, determined⟩
    have more : s.slb.segment.toNat + 1 ≤ reached := by simp only [reached]; split <;> omega
    have short := s.slb.segment.isLt
    refine ⟨by rw [slb, none], ?_, ?_, fun beyond p => kept _ p (ended (last.2 (by omega)) p), fun p => kept _ p (broken p)⟩
    · rw [slb, turnedSlb]
      change (windowFusion s).slb.segment.toNat = _
      rw [number]; omega
    · rw [slb, turnedSlb]
      change (windowFusion s).slb.run = _
      rw [run]
      refine if_congr ?_ rfl rfl
      rw [ne_eq, last]
      omega

/-! ### A sum in range -/

/-- The misses at a chainage, and the marker expected behind them (R69). -/
def missesOf (m : MarkerUnit) (direction : Option Direction) (c : Nat) : List Nat × Option Nat :=
  match m.nextExpected, direction with
  | some k, some e =>
    ((lineFrom e (enabledAt m) k).takeWhile (missedAt m c e), ((lineFrom e (enabledAt m) k).dropWhile (missedAt m c e)).head?)
  | x, _ => ([], x)

/-- The fusion in range, with its misses (R69, R70). -/
theorem windowFusion_of_sound {s : State} (sound : sumClamps s = false) (known : ∀ k, s.mku.nextExpected = some k → k < 256) :
    let misses := missesOf s.mku s.chu.direction (chainageMm (fuseChainage s))
    let u := windowFusion s
    Follows s u ∧
      u.mku = { s.mku with
        missCount := if misses.1 = [] then s.mku.missCount else min 7 (s.mku.missCount + misses.1.length),
        nextExpected := misses.2 } ∧
      u.chu.quality = missedQuality s.setup.missLimit s.mku.missCount misses.1.length s.chu.quality ∧
      (misses.1 ≠ [] → ∀ p, outstanding .markerMiss (u.port p) = true) := by
  intro misses u
  let f := fuseChainage s
  have fused : u = missCheck f := by
    change windowFusion s = _
    rw [windowFusion, if_neg (by rw [sound]; exact Bool.false_ne_true)]
  have follows : Follows s u := by
    rw [fused]; exact (fuseChainage_follows s).trans (missCheckFrom_follows 256 f).1 (.inl rfl)
  by_cases idle : f.mku.nextExpected = none ∨ f.chu.direction = none
  · have stays : u = f := fused.trans (missCheckFrom_idle idle 256)
    have nothing : misses = ([], s.mku.nextExpected) := by
      have quiet : s.mku.nextExpected = none ∨ s.chu.direction = none := idle
      simp only [misses, missesOf]
      split
      · rename_i next direction
        rcases quiet with none | none
        · rw [none] at next; cases next
        · rw [none] at direction; cases direction
      · rfl
    rw [nothing]
    refine ⟨follows, by rw [stays, if_pos rfl]; rfl, ?_, fun some => absurd rfl some⟩
    rw [stays, List.length_nil, missedQuality_zero]; rfl
  · obtain ⟨k, next⟩ := Option.ne_none_iff_exists'.1 fun none => idle (.inl none)
    obtain ⟨e, direction⟩ := Option.ne_none_iff_exists'.1 fun none => idle (.inr none)
    have found : misses = ((lineFrom e (enabledAt s.mku) k).takeWhile (missedAt s.mku (chainageMm f) e),
        ((lineFrom e (enabledAt s.mku) k).dropWhile (missedAt s.mku (chainageMm f) e)).head?) := by
      have here : s.mku.nextExpected = some k := next
      have along : s.chu.direction = some e := direction
      simp only [misses, missesOf, here, along]
      rfl
    obtain ⟨mku, chu, raised⟩ := missCheckFrom_line (n := 256) direction known (expectedLine_length _ _ _)
    have line : expectedLine e (enabledAt f.mku) f.mku.nextExpected = lineFrom e (enabledAt s.mku) k := by rw [next]; rfl
    rw [line] at mku chu raised
    rw [found, fused]
    exact ⟨fused ▸ follows, mku, congrArg ChainageUnit.quality chu, raised⟩

/-- A run of misses lowers the quality where it takes the count to MISS_LIMIT, as the statement says it (R70). -/
theorem missedQuality_eq (limit before : Nat) (misses : List Nat) (q : Quality) :
    missedQuality limit before misses.length q =
      if decide (misses ≠ [] ∧ before < limit ∧ limit ≤ min 7 (before + misses.length)) then degradedFrom q else q := by
  have some : before < limit ∧ limit ≤ min 7 (before + misses.length) → misses ≠ [] := fun reaches none => by
    rw [none, List.length_nil] at reaches; omega
  rw [missedQuality, reachesLimit]
  refine if_congr ?_ rfl rfl
  simp only [decide_eq_true_eq]
  exact ⟨fun reaches => ⟨some reaches, reaches⟩, fun all => all.2⟩

/-- The Marker Unit after a window end: a turn recomputes the next expected marker (R68). -/
theorem takeWindowEnd_mku (s : State) :
    (turn s = none → (takeWindowEnd s).mku = (windowFusion s).mku) ∧
      ∀ e, turn s = some e →
        let u := windowFusion s
        let next := if u.locks.markers = none ∧ u.mku.suspended = false ∧ u.chu.quality ≠ .lost then firstNotPassed u e else none
        (takeWindowEnd s).mku = { u.mku with nextExpected := next } := by
  have later : (takeWindowEnd s).mku = (untilDirection s).mku := (takeWindowEnd_same s).mku.trans (afterDirection_mku _ _)
  refine ⟨fun stays => later.trans (untilDirection_of_no_turn stays).2, fun e turns => ?_⟩
  rw [later, untilDirection_of_turn turns, reportDirection_mku, turning_next]
  rfl

/-- The quality changes at most once in a window end whose sum is in range. -/
theorem takeWindowEnd_once {s : State} {limit before misses : Nat}
    (quality : (windowFusion s).chu.quality = missedQuality limit before misses s.chu.quality) :
    (windowFusion s).chu.quality = s.chu.quality ∨ (takeWindowEnd s).chu.quality = (windowFusion s).chu.quality := by
  by_cases reaches : reachesLimit limit before misses = true
  · refine .inr ?_
    rw [missedQuality, if_pos reaches] at quality
    have low : (windowFusion s).chu.quality ≠ .surveyed ∧ (windowFusion s).chu.quality ≠ .deadReckoned := by
      rw [quality]
      cases s.chu.quality <;> simp [degradedFrom]
    have same : (untilDirection s).chu.quality = (windowFusion s).chu.quality := by rw [untilDirection_chu]
    rw [takeWindowEnd_chu]
    exact (laterQuality_of_degraded (by rwa [same])).trans same
  · rw [missedQuality, if_neg reaches] at quality
    exact .inl quality

/-- A clamped sum that finds the quality other than LOST leaves no marker expected (R68). -/
theorem takeWindowEnd_next_of_clamp {s : State} (clamps : sumClamps s = true) (found : s.chu.quality ≠ .lost) :
    (takeWindowEnd s).mku.nextExpected = none := by
  obtain ⟨x, -, other, -, same⟩ := clampAndMiss_of_found (s := fuseChainage s) found
  have fused : windowFusion s = changeQuality .lost x := by rw [windowFusion, if_pos clamps, same]
  obtain ⟨stays, turns⟩ := takeWindowEnd_mku s
  cases turned : turn s with
  | none => rw [stays turned, fused]; exact changeQuality_lost_next other
  | some e =>
    have lost : (windowFusion s).chu.quality = .lost := by rw [fused, changeQuality_chu]
    rw [turns e turned]
    exact if_neg fun all => all.2.2 lost

/-- A break of a window end whose sum is in range (R79, R80). -/
theorem takeWindowEnd_of_break {s : State} {e : Direction} (follows : Follows s (windowFusion s)) (turns : turn s = some e)
    (running : s.slb.run = .running) (determined : s.slb.direction ≠ none) (other : s.slb.direction ≠ some e) :
    let t := takeWindowEnd s
    t.slb.openSlices = [] ∧
      t.slb.pendingSlices = s.slb.pendingSlices ++
        (toldOf s.chu.quality (windowFusion s).chu.quality s.slb.openSlices).map (closedSlice .flush s) ∧
      t.slb.segment = (if s.slb.segment = 65535 then s.slb.segment else s.slb.segment + 1) ∧
      t.slb.run = (if s.slb.segment ≠ 65535 then .running else
        if s.slb.openSlices = [] ∧ s.slb.pendingSlices = [] then .idle else .draining) ∧
      (s.slb.segment = 65535 → ∀ p, outstanding .runState (t.port p) = true) ∧ t.slb.direction = some e ∧
      t.slb.lastOpened = none ∧ t.slb.lastClosed = none ∧ t.slb.carriedSkipped = 0 ∧
      t.slb.carriedOverruns = s.slb.carriedOverruns ∧ ∀ p, outstanding .segmentBreak (t.port p) = true := by
  have slb := follows.slb
  have breaks := untilDirection_of_break turns (by rw [slb]; exact running) (by rw [slb]; exact determined) (by rw [slb]; exact other)
  let w := turning e (windowSpeed (fusedDistance s) (windowFusion s))
  have wslb : w.slb = (windowFusion s).slb := turning_slb e _
  have goes : w.slb.run = .running := by rw [wslb, slb]; exact running
  have masked : positionMask w = positionMask s := (recomputeNext_position _).trans follows.masked
  have closes : closedSlice .flush w = closedSlice .flush s := funext fun x =>
    closedSlice_congr (congrArg State.env masked :) (congrArg State.setup masked :) (congrArg State.timebase masked :) .flush x
  have broken := segmentBreak_slb goes
  obtain ⟨raised, ended⟩ := segmentBreak_raises goes
  rw [← breaks] at broken raised ended
  rw [wslb, slb] at broken ended
  have stays : (takeWindowEnd s).slb = (untilDirection s).slb := takeWindowEnd_slb_of_no_open (by rw [broken])
  have kept := takeWindowEnd_keepsEvents s
  have direction : w.chu.direction = some e := by rw [show w.chu = _ from turning_chu e _]; rfl
  intro t
  rw [show t.slb = _ from stays.trans broken]
  refine ⟨rfl, by rw [closes], rfl, ?_, fun last p => kept _ p (ended last p), direction, rfl, rfl, rfl, rfl,
    fun p => kept _ p (raised p)⟩
  simp only [endState, toldOf_eq_nil]
  exact (ite_not _ _ _).symm

/-- A window end whose sum is in range and which breaks no segment (R78, R90, R92). -/
theorem takeWindowEnd_of_no_break {s : State} (follows : Follows s (windowFusion s))
    (once : (windowFusion s).chu.quality = s.chu.quality ∨ (takeWindowEnd s).chu.quality = (windowFusion s).chu.quality)
    (stays : ∀ e, turn s = some e → ¬ (s.slb.run = .running ∧ s.slb.direction ≠ none ∧ s.slb.direction ≠ some e)) :
    let t := takeWindowEnd s
    let xs := toldOf s.chu.quality t.chu.quality s.slb.openSlices
    t.slb.openSlices = xs.dropWhile (passedByAll t) ∧
      t.slb.pendingSlices = s.slb.pendingSlices ++ (xs.takeWhile (passedByAll t)).map (closedSlice .passage s) ∧
      t.slb.run = s.slb.run ∧ t.slb.segment = s.slb.segment ∧
      t.slb.direction = (if s.slb.run = .running ∧ turn s ≠ none ∧ s.slb.direction = none then turn s else s.slb.direction) := by
  intro t xs
  have slb := follows.slb
  have turnedSlb := untilDirection_slb (s := s) fun e turns => by rw [slb]; exact stays e turns
  rw [slb] at turnedSlb
  obtain ⟨opened, pending, run, segment, direction⟩ := takeWindowEnd_slb s
  rw [turnedSlb] at opened pending run segment direction
  rw [toldOf_toldOf once] at opened pending
  exact ⟨opened, pending, run, segment, direction⟩

end Sys2Proof.Machine

/-! PROOF. The window end as its statement gives it: O19. -/

namespace Sys2Proof.Machine

/-! ## The fusion as the statement gives it (R40, R41) -/

theorem orientationSign_eq (u : Setup) : orientationSign u = if u.orientation = .forward then 1 else -1 := by
  cases h : u.orientation <;> simp [orientationSign, h]

/-- The delta sum of the mode in force, none in the None mode (R40). -/
def modeDelta (c : ChainageUnit) : Option Int :=
  if c.left.health = .healthy ∧ c.right.health = .healthy then
    (if c.slip then some (2 * (if c.right.delta.natAbs < c.left.delta.natAbs then c.right.delta else c.left.delta))
      else some (c.left.delta + c.right.delta))
  else if c.left.health = .healthy then some (2 * c.left.delta)
  else if c.right.health = .healthy then some (2 * c.right.delta)
  else none

theorem fusionNumerator_eq (s : State) :
    fusionNumerator s = (modeDelta s.chu).map fun x => x * 1000000 * orientationSign s.setup + s.chu.remainder := by
  unfold fusionNumerator
  dsimp only
  split
  · rename_i left right
    simp only [modeDelta, left, right, and_self, if_true]
    split <;> rfl
  · rename_i left right
    simp only [modeDelta, left, right, reduceCtorEq, and_false, if_false, if_true, Option.map_some]
  · rename_i left right
    simp only [modeDelta, left, right, reduceCtorEq, false_and, if_false, if_true, Option.map_some]
  · rename_i left right
    simp only [modeDelta, left, right, reduceCtorEq, and_self, if_false, Option.map_none]

theorem fusedDistance_eq (s : State) : fusedDistance s = ((fusionNumerator s).getD 0).tdiv (2 * s.setup.encK) := by
  unfold fusedDistance
  cases fusionNumerator s with
  | none => exact (Int.zero_tdiv _).symm
  | some n => rfl

theorem fusedRemainder_eq (s : State) :
    fusedRemainder s = (fusionNumerator s).getD 0 - fusedDistance s * (2 * s.setup.encK) := by
  rw [fusedDistance_eq]
  unfold fusedRemainder
  cases fusionNumerator s with
  | none => simp
  | some n => rfl

theorem fuseChainage_chainage (s : State) :
    ((fuseChainage s).chu.chainage : Int) =
      if chainageSum s < 0 then 0 else if 999999999999 < chainageSum s then 999999999999 else chainageSum s := by
  have limit : (Config.maxUm : Int) = 999999999999 := rfl
  change ((clampInt 0 Config.maxUm (chainageSum s)).toNat : Int) = _
  rw [clampInt, limit]
  split_ifs <;> omega

/-! ## The direction and the travel as the statement gives them (R42, R43, R46) -/

theorem directed_of_none {d : Int} {c : ChainageUnit} (undetermined : c.direction = none) :
    (50000 ≤ (c.determination + d).natAbs →
      (directed d c).direction = some (if 0 < c.determination + d then .increasing else .decreasing) ∧
        (directed d c).determination = 0 ∧ (directed d c).reversal = 0) ∧
    ((c.determination + d).natAbs < 50000 →
      (directed d c).direction = none ∧ (directed d c).determination = c.determination + d) := by
  refine ⟨fun far => ?_, fun near => ?_⟩
  · have turns : turnsTo d c = some (signDirection (c.determination + d)) := by
      rw [turnsTo, undetermined]; exact if_pos far
    rw [directed, turns]
    exact ⟨rfl, rfl, rfl⟩
  · have stays : turnsTo d c = none := by
      rw [turnsTo, undetermined]; exact if_neg (Nat.not_le.2 near)
    rw [directed, stays]
    refine ⟨(accumulated_direction d c).trans undetermined, ?_⟩
    simp only [accumulated, undetermined]

theorem signDirection_eq_iff (d : Int) (e : Direction) : signDirection d = e ↔ (0 < d ↔ e = .increasing) := by
  unfold signDirection
  cases e <;> split <;> simp <;> omega

theorem directed_of_some {d : Int} {c : ChainageUnit} {e : Direction} (determined : c.direction = some e) :
    (d = 0 → (directed d c).direction = some e ∧ (directed d c).reversal = c.reversal) ∧
    (d ≠ 0 → (0 < d ↔ e = .increasing) → (directed d c).direction = some e ∧ (directed d c).reversal = 0) ∧
    (d ≠ 0 → ¬(0 < d ↔ e = .increasing) →
      (50000 ≤ c.reversal + d.natAbs →
        (directed d c).direction = some (if 0 < d then .increasing else .decreasing) ∧ (directed d c).reversal = 0) ∧
      (c.reversal + d.natAbs < 50000 →
        (directed d c).direction = some e ∧ (directed d c).reversal = c.reversal + d.natAbs)) := by
  have stays : ∀ reversal, turnsTo d c = none → (accumulated d c).reversal = reversal →
      (directed d c).direction = some e ∧ (directed d c).reversal = reversal := fun reversal none same => by
    rw [directed, none]
    exact ⟨(accumulated_direction d c).trans determined, same⟩
  refine ⟨fun zero => stays _ ?_ ?_, fun moves along => stays _ ?_ ?_, fun moves against => ⟨fun far => ?_, fun near => stays _ ?_ ?_⟩⟩
  · rw [turnsTo, determined]; exact if_neg fun all => all.1 zero
  · simp only [accumulated, determined, if_pos zero]
  · rw [turnsTo, determined]; exact if_neg fun all => all.2.1 ((signDirection_eq_iff d e).2 along)
  · simp only [accumulated, determined, if_neg moves, if_pos ((signDirection_eq_iff d e).2 along)]
  · have turns : turnsTo d c = some (signDirection d) := by
      rw [turnsTo, determined]; exact if_pos ⟨moves, fun same => against ((signDirection_eq_iff d e).1 same), far⟩
    rw [directed, turns]
    exact ⟨rfl, rfl⟩
  · rw [turnsTo, determined]; exact if_neg fun all => Nat.not_le.2 near all.2.2
  · simp only [accumulated, determined, if_neg moves,
      if_neg fun same => against ((signDirection_eq_iff d e).1 same)]

theorem failed_iff (c : ChainageUnit) :
    (c.left.health = .failed ∨ c.right.health = .failed) ↔ ¬ (c.left.health = .healthy ∧ c.right.health = .healthy) := by
  cases c.left.health <;> cases c.right.health <;> simp

theorem travelled_of_failed (tol : Nat) (d : Int) {c : ChainageUnit} (failed : ¬ (c.left.health = .healthy ∧ c.right.health = .healthy)) :
    (travelled tol d c).slip = c.slip ∧ (travelled tol d c).slipTravel = 0 ∧ (travelled tol d c).slipLeft = 0 ∧
      (travelled tol d c).slipRight = 0 := by
  simp only [travelled, if_pos ((failed_iff c).2 failed), and_self]

theorem travelled_of_healthy (tol : Nat) (d : Int) {c : ChainageUnit} (healthy : c.left.health = .healthy ∧ c.right.health = .healthy) :
    let stretch := c.slipTravel + d.natAbs
    let wl := c.slipLeft + c.left.delta.natAbs
    let wr := c.slipRight + c.right.delta.natAbs
    (stretch < 500000 → (travelled tol d c).slip = c.slip ∧ (travelled tol d c).slipTravel = stretch ∧
      (travelled tol d c).slipLeft = wl ∧ (travelled tol d c).slipRight = wr) ∧
    (500000 ≤ stretch → (travelled tol d c).slip = slipFound tol wl wr ∧ (travelled tol d c).slipTravel = 0 ∧
      (travelled tol d c).slipLeft = 0 ∧ (travelled tol d c).slipRight = 0) := by
  have sound : ¬ (c.left.health = .failed ∨ c.right.health = .failed) := fun failed => (failed_iff c).1 failed healthy
  refine ⟨fun near => ?_, fun far => ?_⟩
  · simp only [travelled, if_neg sound, if_neg (Nat.not_le.2 near), and_self]
  · simp only [travelled, if_neg sound, if_pos far, and_self]

/-! ## The whole window end -/

theorem missedQuality_eq_lost (limit before misses : Nat) (q : Quality) : missedQuality limit before misses q = .lost ↔ q = .lost := by
  unfold missedQuality
  split
  · cases q <;> simp [degradedFrom]
  · rfl

/-- Settles O19: the Chainage Unit step by step, the misses along their line, and the segment by the turn. -/
theorem windowEndFusesAndUpdatesTheDirection : Obligations.WindowEndFusesAndUpdatesTheDirection := by
  intro s o l r m n d sum clamped both stretch wl wr slipped lower
  let z : State := { s with windowTime := 0 }
  obtain ⟨t, taken⟩ : ∃ t, takeWindowEnd z = t := ⟨_, rfl⟩
  have sign : orientationSign z.setup = o := orientationSign_eq s.setup
  have numerator : (fusionNumerator z).getD 0 = n := by rw [fusionNumerator_eq, sign]; rfl
  have distance : fusedDistance z = d := by rw [fusedDistance_eq, numerator]
  have sums : chainageSum z = sum := by rw [chainageSum, distance]
  have clamps : sumClamps z = clamped := by
    rw [sumClamps, sums, ← Bool.decide_or]; rfl
  obtain ⟨chainage, remainder, history, left, right, travel, direction, reversal, determination, slip, slipTravel, slipLeft,
    slipRight⟩ := windowed_fields z
  rw [distance] at history travel direction reversal determination slip slipTravel slipLeft slipRight
  have chu : t.chu = { windowed z with quality := t.chu.quality } := by
    have same := takeWindowEnd_chu z
    rw [taken] at same
    rw [congrArg ChainageUnit.quality same]
    exact same
  have field : ∀ {α : Type} (f : ChainageUnit → α), (∀ c q, f { c with quality := q } = f c) → f t.chu = f (windowed z) := fun f stands => by
    rw [chu]; exact stands _ _
  have found := (field ChainageUnit.slip fun _ _ => rfl).trans slip
  have stretched := (field ChainageUnit.slipTravel fun _ _ => rfl).trans slipTravel
  have foundLeft := (field ChainageUnit.slipLeft fun _ _ => rfl).trans slipLeft
  have foundRight := (field ChainageUnit.slipRight fun _ _ => rfl).trans slipRight
  have masked : positionMask t = positionMask z := taken ▸ takeWindowEnd_position z
  refine ⟨t, congrArg Host.Outcome.next taken, ?_, ?_, ?_, ?_, ?_, ?_, ?_, ?_, ?_, ?_, ?_, ?_, ?_, ?_, ?_, (congrArg State.windowTime masked :),
    (congrArg State.head1 masked :), (congrArg State.head2 masked :), (congrArg State.scv masked :), (congrArg State.env masked :),
    (congrArg State.locks masked :), (congrArg State.signals masked :), (congrArg State.setup masked :),
    (congrArg State.timebase masked :)⟩
  · rw [field ChainageUnit.chainage (fun _ _ => rfl), chainage, fuseChainage_chainage, sums]
  · rw [field ChainageUnit.remainder (fun _ _ => rfl), remainder]
    change (if sumClamps z then 0 else fusedRemainder z) = _
    rw [clamps, fusedRemainder_eq, numerator, distance]
  · exact (field ChainageUnit.speedHistory fun _ _ => rfl).trans history
  · exact (field ChainageUnit.left fun _ _ => rfl).trans left
  · exact (field ChainageUnit.right fun _ _ => rfl).trans right
  · intro beyond
    have fused : (windowFusion z).chu.quality = .lost := by
      rw [windowFusion, if_pos (clamps.trans beyond), clampAndMiss_chu]
    rw [← taken, takeWindowEnd_quality, fused, degradedFrom_lost, ite_self]
    exact heldQuality_of_ne Quality.noConfusion
  · exact (field ChainageUnit.travel fun _ _ => rfl).trans travel
  · intro undetermined
    rw [field ChainageUnit.direction (fun _ _ => rfl), field ChainageUnit.determination (fun _ _ => rfl),
      field ChainageUnit.reversal (fun _ _ => rfl), direction, determination, reversal]
    exact directed_of_none (c := (fuseChainage z).chu) undetermined
  · intro e determined
    rw [field ChainageUnit.direction (fun _ _ => rfl), field ChainageUnit.reversal (fun _ _ => rfl), direction, reversal]
    exact directed_of_some (c := (fuseChainage z).chu) determined
  · intro failed
    rw [found, stretched, foundLeft, foundRight]
    exact travelled_of_failed s.setup.slipTol d (c := (fuseChainage z).chu) (of_decide_eq_false failed)
  · intro healthy
    rw [found, stretched, foundLeft, foundRight]
    exact (travelled_of_healthy s.setup.slipTol d (c := (fuseChainage z).chu) (of_decide_eq_true healthy)).1
  · intro healthy
    rw [found, stretched, foundLeft, foundRight]
    exact (travelled_of_healthy s.setup.slipTol d (c := (fuseChainage z).chu) (of_decide_eq_true healthy)).2
  · intro changes p
    rw [← taken] at changes ⊢
    exact takeWindowEnd_told (s := z) changes p
  · intro beyond found
    refine ⟨?_, fun running => ?_⟩
    · rw [← taken]
      exact takeWindowEnd_next_of_clamp (s := z) (clamps.trans beyond) found
    · have broken := takeWindowEnd_of_clamp (s := z) (clamps.trans beyond) found running
      rw [taken] at broken
      exact broken
  · intro sound known c enabled missed inOrder misses count atLimit q1 q2 turned lowered broken
    have place : chainageMm (fuseChainage z) = c := by
      simp only [c, field ChainageUnit.chainage (fun _ _ => rfl), chainage]
      rfl
    obtain ⟨follows, mku, quality, raised⟩ := windowFusion_of_sound (s := z) (clamps.trans sound) known
    have passes : ∀ e, missed e = missedAt s.mku c e := fun e => by cases e <;> rfl
    have found : missesOf z.mku z.chu.direction (chainageMm (fuseChainage z)) = misses := by
      rw [place]
      simp only [misses, missesOf, passes]
      cases s.mku.nextExpected with
      | none => rfl
      | some k =>
        cases s.chu.direction with
        | none => rfl
        | some e => cases e <;> rfl
    rw [found] at mku quality raised
    have lowers : (windowFusion z).chu.quality = q1 := by rw [quality, missedQuality_eq]; rfl
    have once := takeWindowEnd_once quality
    have kept : ∀ f p, outstanding f ((windowFusion z).port p) = true → outstanding f (t.port p) = true := fun f p stands =>
      taken ▸ takeWindowEnd_keepsEvents z f p (untilDirection_keepsEvents z f p stands)
    obtain ⟨straight, turning⟩ := takeWindowEnd_mku z
    have turns : turned = true ↔ turn z ≠ none := by
      rw [← turned_iff z, taken]; exact decide_eq_true_iff
    have heads : ∀ e, turn z = some e → t.chu.direction = some e := fun e same => by
      rw [← taken, takeWindowEnd_direction, same]; rfl
    have told : ∀ q, lowered q = toldOf s.chu.quality q s.slb.openSlices := fun q => by
      by_cases same : q = s.chu.quality
      · simp only [lowered, toldOf, same, if_true, List.map_id']
      · simp only [lowered, toldOf, same, if_false, if_neg (Ne.symm same)]
        rfl
    rw [taken] at straight turning once
    refine ⟨?_, fun some p => kept _ p (raised some p), fun stays => ?_, fun e hasTurned along => ?_, ?_, fun breaks => ?_,
      fun unbroken => ?_⟩
    · cases way : turn z with
      | none => rw [straight way, mku]
      | some e => rw [turning e way, mku]
    · have stays' : turn z = none := by
        by_contra other
        rw [turns.2 other] at stays
        cases stays
      rw [straight stays', mku]
    · obtain ⟨f, same⟩ := Option.ne_none_iff_exists'.1 (turns.1 hasTurned)
      obtain rfl : f = e := Option.some.inj ((heads f same).symm.trans along)
      have order : inOrder f = markerOrder f := by cases f <;> rfl
      have locks : (windowFusion z).locks = s.locks := (congrArg State.locks follows.masked :)
      have lost : (windowFusion z).chu.quality ≠ .lost ↔ s.chu.quality ≠ .lost := by
        rw [quality]; exact not_congr (missedQuality_eq_lost _ _ _ _)
      have first : firstNotPassed (windowFusion z) f = (inOrder f).find? fun i => enabled i && !missed f i := by
        have table : (windowFusion z).mku.table = s.mku.table := by rw [mku]
        have chainage : (windowFusion z).chu.chainage / 1000 = c := by
          obtain ⟨q, fused⟩ := windowFusion_chu z
          rw [fused]; exact place
        rw [firstNotPassed_eq, order, passes, table, chainage]
        rfl
      rw [turning f same]
      refine if_congr ?_ first rfl
      rw [locks, mku]
      exact and_congr_right fun _ => and_congr_right fun _ => lost
    · have slips : findsSlip z.setup.slipTol (fusedDistance z) z.chu = (both && slipped && decide (500000 ≤ stretch)) := by
        have healthy : both = !decide (s.chu.left.health = .failed ∨ s.chu.right.health = .failed) := by
          rw [← decide_not, decide_eq_decide, failed_iff, not_not]
        rw [distance, healthy, Bool.and_right_comm]
        rfl
      have ends := takeWindowEnd_quality z
      rw [taken, slips, lowers] at ends
      exact ends
    · obtain ⟨hasTurned, acts⟩ := (Bool.and_eq_true _ _).mp breaks
      obtain ⟨running, determined, other⟩ := of_decide_eq_true acts
      obtain ⟨e, same⟩ := Option.ne_none_iff_exists'.1 (turns.1 hasTurned)
      obtain ⟨opened, pending, segment, run, ended, along, lastOpened, lastClosed, skipped, overruns, raises⟩ :=
        takeWindowEnd_of_break (s := z) follows same running determined (by rw [← heads e same]; exact other)
      rw [taken] at opened pending segment run ended along lastOpened lastClosed skipped overruns raises
      rw [lowers] at pending
      rw [told]
      exact ⟨opened, pending, segment, run, ended, along.trans (heads e same).symm, lastOpened, lastClosed, skipped, overruns, raises⟩
    · have stays : ∀ e, turn z = some e →
          ¬ (z.slb.run = .running ∧ z.slb.direction ≠ none ∧ z.slb.direction ≠ some e) := fun e same ⟨running, determined, other⟩ => by
        have breaks : broken = true :=
          (Bool.and_eq_true _ _).mpr ⟨turns.2 (by rw [same]; simp), decide_eq_true ⟨running, determined, by rw [heads e same]; exact other⟩⟩
        rw [unbroken] at breaks
        cases breaks
      obtain ⟨opened, pending, run, segment, along⟩ := takeWindowEnd_of_no_break (s := z) follows (by rw [taken]; exact once) stays
      rw [taken] at opened pending run segment along
      rw [told]
      refine ⟨opened, pending, run, segment, along.trans ?_⟩
      by_cases hasTurned : turn z = none
      · rw [if_neg fun all => all.2.1 hasTurned, if_neg fun all => turns.1 all.2.1 hasTurned]
      · obtain ⟨e, same⟩ := Option.ne_none_iff_exists'.1 hasTurned
        exact if_congr (and_congr_right fun _ => and_congr_left fun _ => turns.symm) (same.trans (heads e same).symm) rfl

end Sys2Proof.Machine
